-- ==== Sys2Proof/Word.lean ====
section
/-! DEFINITION. The word types of the TX core: bytes and the 128-bit command word (spec/30_encoding.md R70). -/

namespace Sys2Proof

/-- One byte: a line symbol, a payload byte, a storage byte. -/
abbrev Byte := BitVec 8

/-- One host command word `CMD[127:0]` (R70). -/
abbrev Cmd := BitVec 128

end Sys2Proof
end

