-- ==== Sys2Proof/Syntax.lean ====
section
/-! DEFINITION. The seven host commands, one constructor per row of spec/opcode_table.json, with the operands of
spec/30_encoding.md R73-R75, and the names under which a word that spells no command is rejected. -/

namespace Sys2Proof

/-- A host command (R72). Operand types are the field widths of R73-R75. -/
inductive Instr where
  /-- SETUP, R73 and R105: `PIN`, `REPEAT`, `INVERT`, `PERIOD`. -/
  | setup (pin rep : BitVec 8) (invert : Bool) (period : BitVec 32)
  /-- CFG_TIMING, R74 and R110: `LOW`, `HIGH`, `TRAIL`, `GAP`. -/
  | cfgTiming (low high trail gap : BitVec 8)
  /-- CFG_GAPMUL, R74 and R112: `N`. -/
  | cfgGapmul (n : BitVec 16)
  /-- SET_ADDR, R75 and R118: `A[0..4]`. -/
  | setAddr (a : Vector Byte 5)
  /-- SEND_RAW, R75 and R123: `B[0..9]`. -/
  | sendRaw (b : Vector Byte 10)
  /-- SEND_CMD, R75 and R125: `COMMAND`, `PARAMETER`, `ROOM`, `DEVICE`. -/
  | sendCmd (command parameter room device : Byte)
  /-- IS_READY, R75 and R127. -/
  | isReady
  deriving DecidableEq, Repr

/-- Why a word spells no command (R78). Both are answered ILLEGAL (R103). -/
inductive DecodeError where
  /-- `CMD[7:4]` is not 0. -/
  | headerNotZero (z : BitVec 4)
  /-- `OP` is 0 or 8..15. -/
  | undefinedOpcode (op : BitVec 4)
  deriving DecidableEq, Repr

end Sys2Proof
end

