-- ==== Sys2Proof/WellFormed.lean ====
section
/-! DEFINITION. Which command words are well formed. Every operand of `Instr` has exactly the width of its field
(spec/30_encoding.md R73-R75), so no term of `Instr` is ill formed; the checks are on words: a word that spells a command
(R78) and a word whose reserved bits are written as 0, as R79 asks of software. -/

namespace Sys2Proof

/-- The word spells a command: `CMD[7:0]` is `0x01`..`0x07`, that is `OP` in 1..7 and `CMD[7:4] = 0` (R72, R78). -/
def legalWord (w : Cmd) : Bool := decide (1 ≤ w.toNat % 256 ∧ w.toNat % 256 ≤ 7)

/-- The bits of a command word that R71 and the field tables R73-R75 name for the opcode `op`; every other bit is reserved
(R79). -/
def usedBits (op : Nat) : Cmd :=
  match op with
  | 1 => 0x0000000000000000FFFFFFFF01FFFFFF
  | 2 => 0x0000000000000000000000FFFFFFFFFF
  | 3 => 0x00000000000000000000000000FFFFFF
  | 4 => 0x00000000000000000000FFFFFFFFFFFF
  | 5 => 0x0000000000FFFFFFFFFFFFFFFFFFFFFF
  | 6 => 0x0000000000000000000000FFFFFFFFFF
  | _ => 0x000000000000000000000000000000FF

/-- The word with its reserved bits cleared (R79). -/
def clearReserved (w : Cmd) : Cmd := w &&& usedBits (w.toNat % 16)

/-- The word spells a command and its reserved bits are 0. -/
def canonicalWord (w : Cmd) : Bool := legalWord w && (clearReserved w == w)

end Sys2Proof
end

