-- ==== Sys2Proof/Decode.lean ====
section
/-! DEFINITION. The decoder of the host port, total on every 128-bit word (spec/30_encoding.md R70-R78), the encoder written
from the same field tables (R73-R75), and the textual form of a command (R83). -/

namespace Sys2Proof

/-- `OP = CMD[3:0]` (R71). -/
def opField (w : Cmd) : BitVec 4 := w.extractLsb' 0 4

/-- `CMD[7:4]`, which must be 0 (R71, R78). -/
def zField (w : Cmd) : BitVec 4 := w.extractLsb' 4 4

/-- Payload byte `P[k] = CMD[8k+15 : 8k+8]` (R71). -/
def payload (w : Cmd) (k : Nat) : Byte := w.extractLsb' (8 * k + 8) 8

/-- The command a word spells, or the reason it spells none (R71-R75, R78). Reserved bits are not looked at (R79). -/
def decode (w : Cmd) : Except DecodeError Instr :=
  if zField w ≠ 0 then .error (.headerNotZero (zField w)) else
  match (opField w).toNat with
  | 1 => .ok (.setup (payload w 0) (payload w 1) (w.getLsbD 24) (w.extractLsb' 32 32))
  | 2 => .ok (.cfgTiming (payload w 0) (payload w 1) (payload w 2) (payload w 3))
  | 3 => .ok (.cfgGapmul (w.extractLsb' 8 16))
  | 4 => .ok (.setAddr #v[payload w 0, payload w 1, payload w 2, payload w 3, payload w 4])
  | 5 => .ok (.sendRaw #v[payload w 0, payload w 1, payload w 2, payload w 3, payload w 4,
                          payload w 5, payload w 6, payload w 7, payload w 8, payload w 9])
  | 6 => .ok (.sendCmd (payload w 0) (payload w 1) (payload w 2) (payload w 3))
  | 7 => .ok .isReady
  | _ => .error (.undefinedOpcode (opField w))

/-- The field `v` at bits `lo` and up of a command word, every other bit 0. -/
def place {n : Nat} (lo : Nat) (v : BitVec n) : Cmd := v.setWidth 128 <<< lo

/-- The word of a command, reserved bits 0 (R71-R75, R79). -/
def encode : Instr → Cmd
  | .setup pin rep invert period =>
      0x01 ||| place 8 pin ||| place 16 rep ||| place 24 (BitVec.ofBool invert) ||| place 32 period
  | .cfgTiming low high trail gap => 0x02 ||| place 8 low ||| place 16 high ||| place 24 trail ||| place 32 gap
  | .cfgGapmul n => 0x03 ||| place 8 n
  | .setAddr a => 0x04 ||| place 8 a[0] ||| place 16 a[1] ||| place 24 a[2] ||| place 32 a[3] ||| place 40 a[4]
  | .sendRaw b =>
      0x05 ||| place 8 b[0] ||| place 16 b[1] ||| place 24 b[2] ||| place 32 b[3] ||| place 40 b[4] |||
        place 48 b[5] ||| place 56 b[6] ||| place 64 b[7] ||| place 72 b[8] ||| place 80 b[9]
  | .sendCmd command parameter room device =>
      0x06 ||| place 8 command ||| place 16 parameter ||| place 24 room ||| place 32 device
  | .isReady => 0x07

/-- The low `nbits` bits of `w` as a command word, every higher bit 0. -/
def tableWord (nbits w : Nat) : Cmd := BitVec.ofNat 128 (w % 2 ^ nbits)

/-- What the decoder reads from a word given as a number whose bit 0 is the word's least significant bit; bits from `nbits`
up are 0. -/
def decodeTableWord (nbits w : Nat) : Option Instr := (decode (tableWord nbits w)).toOption

/-- Values separated by commas, in decimal (R83). -/
def commaSeparated : List Byte → String
  | [] => ""
  | [v] => toString v.toNat
  | v :: vs => toString v.toNat ++ ", " ++ commaSeparated vs

/-- The textual form of a command (R83), values in decimal. -/
def assembly : Instr → String
  | .setup pin rep invert period =>
      "SETUP pin=" ++ toString pin.toNat ++ ", repeat=" ++ toString rep.toNat ++ ", invert=" ++
        (if invert then "1" else "0") ++ ", period=" ++ toString period.toNat
  | .cfgTiming low high trail gap =>
      "CFG_TIMING low=" ++ toString low.toNat ++ ", high=" ++ toString high.toNat ++ ", trail=" ++
        toString trail.toNat ++ ", gap=" ++ toString gap.toNat
  | .cfgGapmul n => "CFG_GAPMUL n=" ++ toString n.toNat
  | .setAddr a => "SET_ADDR " ++ commaSeparated a.toList
  | .sendRaw b => "SEND_RAW " ++ commaSeparated b.toList
  | .sendCmd command parameter room device =>
      "SEND_CMD command=" ++ toString command.toNat ++ ", parameter=" ++ toString parameter.toNat ++ ", room=" ++
        toString room.toNat ++ ", device=" ++ toString device.toNat
  | .isReady => "IS_READY"

end Sys2Proof
end

