-- ==== Sys2Proof/Config.lean ====
section
/-! DEFINITION. What an implementation fixes (the parameters of spec/00_scope.md R9, as plain data that State
carries) and the one free value of the model: the byte a read of non-volatile storage returns (R53). -/

namespace Sys2Proof

/-- The implementation parameters of R9 whose value the spec leaves OPEN. The widths of R9 and the constants of R10 are
fixed in the types of the model. -/
structure Params where
  /-- `TRANSLATE`: SEND_RAW encodes its bytes (true) or takes them verbatim (R116, D14). -/
  translate : Bool
  /-- `NVM_PRESENT`: SETUP restores the address from storage (R108, D15). -/
  nvmPresent : Bool
  /-- `NVM_PERSIST`: SET_ADDR writes the encoded address to storage (R119, D15). -/
  nvmPersist : Bool
  /-- `NVM_BASE`: the storage address of the first stored byte (R53). -/
  nvmBase : BitVec 16
  /-- `SYMBOL_TABLE`: the sixteen line symbols, index = nibble (R43, D18). -/
  symbolTable : Vector Byte 16
  /-- `LOW_RST`: reset value of `CFG_LOW` (R23). -/
  lowRst : BitVec 8
  /-- `HIGH_RST`: reset value of `CFG_HIGH` (R24). -/
  highRst : BitVec 8
  /-- `TRAIL_RST`: reset value of `CFG_TRAIL` (R25). -/
  trailRst : BitVec 8
  /-- `GAP_RST`: reset value of `CFG_GAP` (R26). -/
  gapRst : BitVec 8
  /-- `REPEAT_RST`: reset value of `CFG_REPEAT`, in 1..39 (R28). -/
  repeatRst : BitVec 8
  deriving DecidableEq, Repr

/-- A legal repeat count is 1..39 (R10, R28). -/
abbrev legalRepeat (n : BitVec 8) : Prop := 1 ≤ n.toNat ∧ n.toNat ≤ 39

/-- The sixteen symbols are pairwise distinct (R93). -/
abbrev distinctSymbols (t : Vector Byte 16) : Prop := t.toList.Nodup

/-- What the spec asks of the parameters: a table of distinct symbols (R93) and a legal default repeat count (R28). -/
abbrev Params.ok (p : Params) : Prop := distinctSymbols p.symbolTable ∧ legalRepeat p.repeatRst

/-- The default `SYMBOL_TABLE` of R92 (the spec marks it as general knowledge, G1). Log entry 1. -/
def defaultSymbolTable : Vector Byte 16 :=
  #v[0xF6, 0xEE, 0xED, 0xEB, 0xDE, 0xDD, 0xDB, 0xBE, 0xBD, 0xBB, 0xB7, 0x7E, 0x7D, 0x7B, 0x77, 0x6F]

/-- The parameters of `State.reset`. `TRANSLATE`, `NVM_PRESENT`, `NVM_PERSIST` and the table are R9's and R92's defaults
(log entry 1). The others have no default in the spec: DESIGN CHOICE, unsafe (log entry 2). -/
def defaultParams : Params where
  translate := true
  nvmPresent := false
  nvmPersist := false
  nvmBase := 0
  symbolTable := defaultSymbolTable
  lowRst := 0
  highRst := 0
  trailRst := 0
  gapRst := 0
  repeatRst := 1

/-- The free value of a storage read: the byte the `k`-th `MemRead` of a run returns at address `a`, when the core itself
last stored `stored` there (none: it never wrote there). It has no body, so nothing is known of it: a read is a draw
(R53, U4). Log entry 9, safe. -/
opaque Config.nvmDraw (k : Nat) (a : BitVec 16) (stored : Option Byte) : Byte

end Sys2Proof
end

