-- ==== Sys2Proof/Machine/State.lean ====
section
/-! DEFINITION. The state of the TX core as plain data (spec/10_state.md, 20_memory.md R53, 30_encoding.md R76), its value
after reset (R47), and the reasons a step can stop (60_exceptions.md R182). -/

namespace Sys2Proof.Machine

/-- The current framing state, the register `STATE` (R36): seven states and the unused code 7. -/
inductive Framing where
  | idle
  | msgStart
  | byteStart
  | sendByte
  | msgEnd
  | gapStart
  | gapEnd
  /-- Code 7, never written (R152). -/
  | unused7
  deriving DecidableEq, Repr

/-- The electrical level of the transmit pin (R38). -/
inductive Level where
  | low
  | high
  /-- Z: not driven. -/
  | z
  deriving DecidableEq, Repr

/-- One entry of the frame buffer: `BUF[i]` with its mark `BUF_W[i]` (R35). -/
structure BufByte where
  val : Byte
  written : Bool
  deriving DecidableEq, Repr

/-- One access to non-volatile storage (R53). -/
inductive NvAccess where
  /-- `MemRead(a, 1)` returned `v`. -/
  | read (a : BitVec 16) (v : Byte)
  /-- `MemWrite(a, 1, v)`. -/
  | write (a : BitVec 16) (v : Byte)
  deriving DecidableEq, Repr

/-- One event the environment delivers to the core (R62, R82, R210). -/
inductive Input where
  /-- The host issues a command word. -/
  | command (w : Cmd)
  /-- The periodic timer fires. -/
  | tick
  /-- The block is reset, for example by a power cycle (R210). Log entry 13. -/
  | reset
  deriving DecidableEq, Repr

/-- Everything the spec gives the machine, and the model's own fields `params`, `nvmLog`, `draws` and `inputs`. -/
structure State where
  /-- The implementation parameters (R9); no step writes them. Log entry 1. -/
  params : Params
  /-- `CFG_LOW` (R23). -/
  cfgLow : BitVec 8
  /-- `CFG_HIGH` (R24). -/
  cfgHigh : BitVec 8
  /-- `CFG_TRAIL` (R25). -/
  cfgTrail : BitVec 8
  /-- `CFG_GAP` (R26). -/
  cfgGap : BitVec 8
  /-- `CFG_GAPMUL` (R27). -/
  cfgGapmul : BitVec 16
  /-- `CFG_REPEAT` (R28). -/
  cfgRepeat : BitVec 8
  /-- `CFG_INVERT` (R29). -/
  cfgInvert : Bool
  /-- `CFG_PERIOD` (R30). -/
  cfgPeriod : BitVec 32
  /-- `CFG_PIN` (R31). -/
  cfgPin : BitVec 8
  /-- `CONFIGURED` (R32). -/
  configured : Bool
  /-- `ACTIVE`, the only flag (R33). -/
  active : Bool
  /-- `TIMER_EN` (R34). -/
  timerEn : Bool
  /-- `BUF[0..9]` with `BUF_W[0..9]` (R35). -/
  buf : Vector BufByte 10
  /-- `STATE` (R36). -/
  framing : Framing
  /-- `TOGGLE` (R37). -/
  toggle : BitVec 8
  /-- `REP_CNT` (R39). -/
  repCnt : BitVec 8
  /-- `BYTE_IDX` (R40). -/
  byteIdx : BitVec 4
  /-- `BIT_MASK` (R41). -/
  bitMask : BitVec 8
  /-- `GAP_REP` (R42). -/
  gapRep : BitVec 16
  /-- `TX_OUT` (R38). -/
  txOut : Level
  /-- The response word of the latest command, none before the first (R76). Log entry 11. -/
  rsp : Option Byte
  /-- Non-volatile storage as the core's own writes left it, by rising address (R53). Log entry 10. -/
  nvm : List Host.Cell
  /-- The storage accesses issued, oldest first (R46, R66). Log entry 12. -/
  nvmLog : List NvAccess
  /-- How many storage bytes have been drawn: the index of the next free value (R53). Log entry 9. -/
  draws : Nat
  /-- What the environment delivers next, in its order (R62, R186). Log entry 7. -/
  inputs : List Input
  deriving DecidableEq, Repr

/-- Why a run stops: the model faults of R182 and one of the model's own. None is hardware behaviour (R180). -/
inductive Fault where
  /-- `UNWRITTEN_BUF` (R121, R182): raised by the arm when some byte of the frame was never written. Safe: the hardware
  would send an unspecified byte, and the model has no such run. -/
  | unwrittenBuf
  /-- `BAD_STATE` (R152, R182): raised by a tick step with `STATE = 7`. Safe; no run reaches it. -/
  | badState
  /-- Raised by a `send_byte` zero event with `BYTE_IDX >= 10`, to which no rule gives a meaning. Safe; R163 shows that no
  run reaches it. Log entry 6. -/
  | frameOverrun
  deriving DecidableEq, Repr

/-- Why a step has no meaning. -/
inductive Refusal where
  /-- Raised by `exec` for an instruction without a meaning; no arm of `exec` raises it. Safe. -/
  | notModelled (mnemonic : String)
  deriving DecidableEq, Repr

/-- The machine after reset of a block with parameters `p` (R47, R210). `CFG_PERIOD`, `CFG_PIN` (log entry 3) and the bytes
of `BUF` (log entry 4) have no value in the spec: DESIGN CHOICE 0, unsafe. -/
def State.resetWith (p : Params) : State where
  params := p
  cfgLow := p.lowRst
  cfgHigh := p.highRst
  cfgTrail := p.trailRst
  cfgGap := p.gapRst
  cfgGapmul := 0
  cfgRepeat := p.repeatRst
  cfgInvert := false
  cfgPeriod := 0
  cfgPin := 0
  configured := false
  active := false
  timerEn := false
  buf := Vector.replicate 10 ⟨0, false⟩
  framing := .idle
  toggle := 0
  repCnt := 0
  byteIdx := 0
  bitMask := 0x80
  gapRep := 0
  txOut := .z
  rsp := none
  nvm := []
  nvmLog := []
  draws := 0
  inputs := []

/-- The machine right after reset (R47), with the parameters of `defaultParams` (log entries 1 and 2). -/
def State.reset : State := State.resetWith defaultParams

end Sys2Proof.Machine
end

