-- ==== Sys2Proof/Machine/Flags.lean ====
section
/-! DEFINITION. The one flag of the TX core is `ACTIVE` (spec/10_state.md R33); what is computed from it and from the outcome
of a command is the response word (30_encoding.md R76). -/

namespace Sys2Proof.Machine

/-- The outcome of a command, `RSP[1:0]` (R76, R183). -/
inductive Code where
  | ok
  | busy
  | illegal
  | unconfigured
  deriving DecidableEq, Repr

/-- The two bits of a code (R76). -/
def codeBits : Code → BitVec 2
  | .ok => 0
  | .busy => 1
  | .illegal => 2
  | .unconfigured => 3

/-- READY = NOT `ACTIVE`, `RSP[2]` (R76). -/
def ready (s : State) : Bool := !s.active

/-- `RSP = (00000, NOT ACTIVE, code)` (R76). -/
def responseWord (c : Code) (s : State) : Byte := 0#5 ++ BitVec.ofBool (ready s) ++ codeBits c

end Sys2Proof.Machine
end

