-- ==== Sys2Proof/Machine/Operands.lean ====
section
/-! DEFINITION. The operand forms: the Nibble Encoder (spec/40_nibble_encoder.md R91), the translation of SEND_RAW
(41_host_commands.md R116), the nibbles of `PARAMETER` (R125), and the storage address of address byte i (20_memory.md R53). -/

namespace Sys2Proof.Machine

/-- The encoder masks its input to four bits, so no input is out of range (R90). -/
theorem nibble_lt (n : Byte) : (n &&& 0xF).toNat < 16 := by
  rw [BitVec.toNat_and]; exact Nat.lt_succ_of_le Nat.and_le_right

/-- `Encode(n) = SYMBOL_TABLE[n & 0xF]` (R91). -/
def encodeNibble (p : Params) (n : Byte) : Byte := p.symbolTable[(n &&& 0xF).toNat]'(nibble_lt n)

/-- What SEND_RAW places for a raw byte (R116, R123). -/
def translateRaw (p : Params) (v : Byte) : Byte := if p.translate then encodeNibble p v else v

/-- `PARAMETER >> 4` (R125). -/
def highNibble (v : Byte) : Byte := v >>> 4

/-- `PARAMETER & 0xF` (R125). -/
def lowNibble (v : Byte) : Byte := v &&& 0xF

/-- The buffer position of address byte `i`: `4 + i` (R51). -/
def addrPos (i : Fin 5) : Fin 10 := ⟨4 + i.val, by omega⟩

/-- The storage address of address byte `i`: `(NVM_BASE + i) mod 2^16` (R53). -/
def nvAddr (p : Params) (i : Fin 5) : BitVec 16 := p.nvmBase + BitVec.ofNat 16 i.val

end Sys2Proof.Machine
end

