-- ==== Sys2Proof/Machine/Ops.lean ====
section
/-! DEFINITION. The named operations over memory and registers: storage, the frame buffer, the output pin, the timer, the
response, the guards, the arm, and reset. The TX core raises no exception and takes no trap (spec/60_exceptions.md R180):
entering the tick handler saves no state and returning restores none (R187, R189), so there is no exception entry and no
return to model. -/

namespace Sys2Proof.Machine

/-! ### Non-volatile storage -/

/-- The byte the core last stored at an address; none at an address it never wrote (log entry 10). -/
def Memory.read : List Host.Cell → Nat → Option Byte
  | [], _ => none
  | (b, v) :: m, a => if a = b then some v else Memory.read m a

/-- Store a byte at an address, keeping addresses strictly rising. -/
def Memory.write : List Host.Cell → Nat → Byte → List Host.Cell
  | [], a, v => [(a, v)]
  | (b, u) :: m, a, v =>
    if a < b then (a, v) :: (b, u) :: m
    else if a = b then (a, v) :: m
    else (b, u) :: Memory.write m a v

/-- The canonical form: strictly rising addresses of `W_NVA` = 16 bits (R53). -/
abbrev Memory.wf (m : List Host.Cell) : Prop := (m.map Prod.fst).Pairwise (· < ·) ∧ ∀ c ∈ m, c.1 < 65536

/-- The indices of the five address bytes, in the order of R66. -/
def addrIndices : List (Fin 5) := [0, 1, 2, 3, 4]

/-- Five `MemWrite`s: byte `v i` to the address of address byte `i`, i = 0..4 in order (R53, R66). -/
def memWriteAddress (v : Fin 5 → Byte) (s : State) : State :=
  { s with
    nvm := addrIndices.foldl (fun m i => Memory.write m (nvAddr s.params i).toNat (v i)) s.nvm
    nvmLog := s.nvmLog ++ addrIndices.map (fun i => .write (nvAddr s.params i) (v i)) }

/-- The byte the `MemRead` of address byte `i` returns: a draw (R53, U4). -/
def drawnByte (s : State) (i : Fin 5) : Byte :=
  Config.nvmDraw (s.draws + i.val) (nvAddr s.params i) (Memory.read s.nvm (nvAddr s.params i).toNat)

/-- The state after five `MemRead`s, i = 0..4 in order: the storage is unchanged (R59), five draws are used up (R66). -/
def memReadAddress (s : State) : State :=
  { s with
    nvmLog := s.nvmLog ++ addrIndices.map (fun i => .read (nvAddr s.params i) (drawnByte s i))
    draws := s.draws + 5 }

/-! ### The frame buffer -/

/-- `BUF[i] <- v; BUF_W[i] <- 1` (R35). -/
def putByte (i : Fin 10) (v : Byte) (f : Vector BufByte 10) : Vector BufByte 10 := f.set i.val ⟨v, true⟩ i.isLt

/-- The five address bytes placed at positions 4..8 (R51). -/
def putAddress (v : Fin 5 → Byte) (f : Vector BufByte 10) : Vector BufByte 10 :=
  addrIndices.foldl (fun f i => putByte (addrPos i) (v i) f) f

/-- Every byte of the frame has been written since reset (R121). -/
def frameWritten (s : State) : Bool := s.buf.toList.all (fun b => b.written)

/-! ### The Pulse Output Driver -/

/-- `ON_LEVEL` (R29). -/
def onLevel (s : State) : Level := if s.cfgInvert then .low else .high

/-- `OFF_LEVEL` (R29). -/
def offLevel (s : State) : Level := if s.cfgInvert then .high else .low

/-- `DriveOn()` (R38). -/
def driveOn (s : State) : State := { s with txOut := onLevel s }

/-- `DriveOff()` (R38). -/
def driveOff (s : State) : State := { s with txOut := offLevel s }

/-! ### The Tick Timer Driver -/

/-- `TimerStart()` (R188). -/
def timerStart (s : State) : State := { s with timerEn := true }

/-- `TimerStop()` (R188). -/
def timerStop (s : State) : State := { s with timerEn := false }

/-! ### Responses and guards -/

/-- `respond(code)`, with `ACTIVE` as every earlier write of the step left it (R76). -/
def respond (c : Code) (s : State) : State := { s with rsp := some (responseWord c s) }

/-- The BUSY guard (R101): a command that writes state is refused while a transmission is active. -/
def unlessBusy (s : State) (body : State → Host.Outcome State Fault Refusal) : Host.Outcome State Fault Refusal :=
  if s.active then .next (respond .busy s) else body s

/-- The UNCONFIGURED guard (R102): a send is refused before the first SETUP. -/
def ifConfigured (s : State) (body : State → Host.Outcome State Fault Refusal) : Host.Outcome State Fault Refusal :=
  if s.configured then body s else .next (respond .unconfigured s)

/-! ### The arm -/

/-- The writes of `Arm()` (R121). `TX_OUT` is not changed. -/
def armed (s : State) : State :=
  timerStart { s with framing := .idle, toggle := s.cfgHigh, repCnt := 0, byteIdx := 0, bitMask := 0x80, gapRep := 0, active := true }

/-- `Arm(); respond(OK)`, the end of SEND_RAW and SEND_CMD; the model fault `UNWRITTEN_BUF` if the frame holds an unwritten
byte (R121, R182). -/
def armAndRespond (s : State) : Host.Outcome State Fault Refusal :=
  if frameWritten s then .next (respond .ok (armed s)) else .fault .unwrittenBuf

/-! ### State codes and reset -/

/-- The numeric code of `STATE` (R36). No rule observes it (D22). -/
def framingCode : Framing → BitVec 3
  | .idle => 0
  | .msgStart => 1
  | .byteStart => 2
  | .sendByte => 3
  | .msgEnd => 4
  | .gapStart => 5
  | .gapEnd => 6
  | .unused7 => 7

/-- A reset of the running block: every register takes its reset value; storage is not reset (R210, R196). The access log, the
draw index and the events still to come belong to the outside and are kept (log entry 13). -/
def powerCycle (s : State) : State :=
  { State.resetWith s.params with nvm := s.nvm, nvmLog := s.nvmLog, draws := s.draws, inputs := s.inputs }

end Sys2Proof.Machine
end

