-- ==== Sys2Proof/Machine/Configure.lean ====
section
/-! DEFINITION. The configuring commands SETUP, CFG_TIMING and CFG_GAPMUL (spec/41_host_commands.md R105-R113). -/

namespace Sys2Proof.Machine

/-- SETUP's restore: `BUF[4+i] <- MemRead((NVM_BASE + i) mod 2^16, 1)`, verbatim, i = 0..4 in order; nothing without
storage (R66, R108). -/
def restoreAddress (s : State) : State :=
  if s.params.nvmPresent then { memReadAddress s with buf := putAddress (drawnByte s) s.buf } else s

/-- The registers SETUP writes; a `REPEAT` outside 1..39 leaves `CFG_REPEAT` as it was (R105, R107). -/
def setupRegisters (pin rep : BitVec 8) (invert : Bool) (period : BitVec 32) (s : State) : State :=
  { s with
    cfgPin := pin
    cfgRepeat := if 1 ≤ rep.toNat ∧ rep.toNat ≤ 39 then rep else s.cfgRepeat
    cfgInvert := invert
    cfgPeriod := period
    configured := true }

/-- SETUP (R105). -/
def execSetup (pin rep : BitVec 8) (invert : Bool) (period : BitVec 32) (s : State) :
    Host.Outcome State Fault Refusal :=
  unlessBusy s fun s =>
    .next (respond .ok (restoreAddress (driveOff (setupRegisters pin rep invert period s))))

/-- CFG_TIMING (R110). -/
def execCfgTiming (low high trail gap : BitVec 8) (s : State) : Host.Outcome State Fault Refusal :=
  unlessBusy s fun s =>
    .next (respond .ok { s with cfgLow := low, cfgHigh := high, cfgTrail := trail, cfgGap := gap })

/-- CFG_GAPMUL (R112). -/
def execCfgGapmul (n : BitVec 16) (s : State) : Host.Outcome State Fault Refusal :=
  unlessBusy s fun s => .next (respond .ok { s with cfgGapmul := n })

end Sys2Proof.Machine
end

