-- ==== Sys2Proof/Machine/MessageBuilder.lean ====
section
/-! DEFINITION. The Message Builder's commands SET_ADDR, SEND_RAW and SEND_CMD (spec/41_host_commands.md R114-R126). -/

namespace Sys2Proof.Machine

/-- The five address bytes: `BUF[4+i] <- Encode(A[i])`, i = 0..4 (R118). -/
def buildAddress (a : Vector Byte 5) (s : State) : State :=
  { s with buf := putAddress (fun i => encodeNibble s.params a[i]) s.buf }

/-- SET_ADDR's persistence: `MemWrite((NVM_BASE + i) mod 2^16, 1, BUF[4+i])`, i = 0..4 in order (R66, R119). -/
def persistAddress (s : State) : State :=
  if s.params.nvmPersist then memWriteAddress (fun i => s.buf[addrPos i].val) s else s

/-- SET_ADDR (R118). It builds and does not arm. -/
def execSetAddr (a : Vector Byte 5) (s : State) : Host.Outcome State Fault Refusal :=
  unlessBusy s fun s => .next (respond .ok (persistAddress (buildAddress a s)))

/-- The ten positions of the frame, in order. -/
def framePositions : List (Fin 10) := [0, 1, 2, 3, 4, 5, 6, 7, 8, 9]

/-- `build_from_raw`: `BUF[i]` takes `B[i]`, encoded or verbatim, i = 0..9 (R116, R123). -/
def buildRaw (b : Vector Byte 10) (s : State) : State :=
  { s with buf := framePositions.foldl (fun f i => putByte i (translateRaw s.params b[i]) f) s.buf }

/-- SEND_RAW (R123): build and arm in one step. -/
def execSendRaw (b : Vector Byte 10) (s : State) : Host.Outcome State Fault Refusal :=
  unlessBusy s fun s => ifConfigured s fun s => armAndRespond (buildRaw b s)

/-- `build_from_fields`: positions 0..3 and 9; positions 4..8 keep the address (R115, R125). -/
def buildFields (command parameter room device : Byte) (s : State) : State :=
  let p := s.params
  { s with
    buf :=
      putByte 9 (encodeNibble p room) <|
      putByte 3 (encodeNibble p command) <|
      putByte 2 (encodeNibble p device) <|
      putByte 1 (encodeNibble p (lowNibble parameter)) <|
      putByte 0 (encodeNibble p (highNibble parameter)) s.buf }

/-- SEND_CMD (R125): build and arm in one step. -/
def execSendCmd (command parameter room device : Byte) (s : State) : Host.Outcome State Fault Refusal :=
  unlessBusy s fun s => ifConfigured s fun s => armAndRespond (buildFields command parameter room device s)

end Sys2Proof.Machine
end

