-- ==== Sys2Proof/Machine/Query.lean ====
section
/-! DEFINITION. The query IS_READY (spec/41_host_commands.md R127, R128). -/

namespace Sys2Proof.Machine

/-- IS_READY (R127): never refused, changes no register; the answer is `RSP[2]`. -/
def execIsReady (s : State) : Host.Outcome State Fault Refusal := .next (respond .ok s)

end Sys2Proof.Machine
end

