-- ==== Sys2Proof/Machine/Dispatch.lean ====
section
/-! DEFINITION. One arm per command, each one call of its meaning. -/

namespace Sys2Proof.Machine

def exec (i : Instr) (s : State) : Host.Outcome State Fault Refusal :=
  match i with
  | .setup pin rep invert period => Sys2Proof.Machine.execSetup pin rep invert period s
  | .cfgTiming low high trail gap => Sys2Proof.Machine.execCfgTiming low high trail gap s
  | .cfgGapmul n => Sys2Proof.Machine.execCfgGapmul n s
  | .setAddr a => Sys2Proof.Machine.execSetAddr a s
  | .sendRaw b => Sys2Proof.Machine.execSendRaw b s
  | .sendCmd command parameter room device => Sys2Proof.Machine.execSendCmd command parameter room device s
  | .isReady => Sys2Proof.Machine.execIsReady s

end Sys2Proof.Machine
end

