-- ==== Sys2Proof/Machine/Sequencer.lean ====
section
/-! DEFINITION. The Transmit State Machine: the tick step and the arms of its states (spec/42_tick_sequencer.md
R140-R152). -/

namespace Sys2Proof.Machine

/-- `TOGGLE <- (TOGGLE - 1) mod 256` (R141). -/
def decToggle (s : State) : State := { s with toggle := s.toggle - 1 }

/-- The trailing event: `DriveOff()` when the decremented counter equals `CFG_TRAIL` (R142). -/
def trailingEvent (s : State) : State := if s.toggle = s.cfgTrail then driveOff s else s

/-- `idle` (R145). -/
def zeroIdle (s : State) : State := if s.active then { s with repCnt := 0, framing := .msgStart } else s

/-- `msg_start` (R146). -/
def zeroMsgStart (s : State) : State := { driveOn s with byteIdx := 0, framing := .byteStart }

/-- `byte_start` (R147). -/
def zeroByteStart (s : State) : State := { driveOn s with bitMask := 0x80, framing := .sendByte }

/-- The pin and the counter for one bit: `DriveOn()` for a 1, the low width for a 0 (R148). -/
def sendBit (bit : Bool) (s : State) : State := if bit then driveOn s else { s with toggle := s.cfgLow }

/-- After a byte's last bit: the next byte, or `msg_end` after the tenth (R148). -/
def nextByte (s : State) : State :=
  { s with byteIdx := s.byteIdx + 1, framing := if 10 ≤ (s.byteIdx + 1).toNat then .msgEnd else .byteStart }

/-- `BIT_MASK <- BIT_MASK >> 1`, and the end of the byte when the mask is exhausted (R148). -/
def advanceBit (s : State) : State :=
  let s := { s with bitMask := s.bitMask >>> 1 }
  if s.bitMask = 0 then nextByte s else s

/-- `send_byte` (R148). A `BYTE_IDX` outside 0..9 is unreachable (R163) and stops the model (log entry 6). -/
def zeroSendByte (s : State) : Host.Outcome State Fault Refusal :=
  if h : s.byteIdx.toNat < 10 then
    .next (advanceBit (sendBit (s.buf[s.byteIdx.toNat].val &&& s.bitMask != 0) s))
  else .fault .frameOverrun

/-- `msg_end` (R149). -/
def zeroMsgEnd (s : State) : State := { driveOn s with gapRep := s.cfgGapmul, framing := .gapStart }

/-- `gap_start` (R150). -/
def zeroGapStart (s : State) : State :=
  let s := { s with toggle := s.cfgGap }
  if s.gapRep = 0 then { s with framing := .gapEnd } else { s with gapRep := s.gapRep - 1 }

/-- `gap_end` (R151). -/
def zeroGapEnd (s : State) : State :=
  let s := { s with repCnt := s.repCnt + 1 }
  if s.cfgRepeat.toNat ≤ s.repCnt.toNat then { timerStop s with active := false, framing := .idle }
  else { s with framing := .msgStart }

/-- The zero event: reload `CFG_HIGH`, then run the arm of the state (R143). -/
def zeroEvent (s : State) : Host.Outcome State Fault Refusal :=
  let s := { s with toggle := s.cfgHigh }
  match s.framing with
  | .idle => .next (zeroIdle s)
  | .msgStart => .next (zeroMsgStart s)
  | .byteStart => .next (zeroByteStart s)
  | .sendByte => zeroSendByte s
  | .msgEnd => .next (zeroMsgEnd s)
  | .gapStart => .next (zeroGapStart s)
  | .gapEnd => .next (zeroGapEnd s)
  | .unused7 => .fault .badState

/-- The tick step: decrement, trailing event, zero event (R141, R144). With `STATE = 7` it is the model fault `BAD_STATE`
whatever the counter (R182; log entry 5). -/
def tickStep (s : State) : Host.Outcome State Fault Refusal :=
  if s.framing = .unused7 then .fault .badState
  else
    let s := trailingEvent (decToggle s)
    if s.toggle = 0 then zeroEvent s else .next s

/-- One firing of the timer: a tick step while `TIMER_EN = 1`; nothing while it is 0 (R140, R185; log entry 8). -/
def tickEvent (s : State) : Host.Outcome State Fault Refusal := if s.timerEn then tickStep s else .next s

end Sys2Proof.Machine
end

