-- ==== Sys2Proof/Machine/Port.lean ====
section
/-! DEFINITION. The outside of the core: the command step of the host port (spec/41_host_commands.md R100-R104), and the
delivery of the next event of the environment (20_memory.md R62, 60_exceptions.md R186). -/

namespace Sys2Proof.Machine

/-- The command step (R104): a word that spells no command is answered ILLEGAL and changes nothing else (R103); the other
guards are in the meanings. -/
def commandStep (w : Cmd) (s : State) : Host.Outcome State Fault Refusal :=
  match decode w with
  | .ok i => exec i s
  | .error _ => .next (respond .illegal s)

/-- One event delivered to the core. -/
def deliver (e : Input) (s : State) : Host.Outcome State Fault Refusal :=
  match e with
  | .command w => commandStep w s
  | .tick => tickEvent s
  | .reset => .next (powerCycle s)

/-- The next event: the first of `inputs`; with none left the host is silent and only the timer fires (R140, R211; log
entries 7 and 8). -/
def nextEvent (s : State) : Host.Outcome State Fault Refusal :=
  match s.inputs with
  | [] => tickEvent s
  | e :: rest => deliver e { s with inputs := rest }

/-- The state in which the host issues a command word before anything else happens. -/
def issue (w : Cmd) (s : State) : State := { s with inputs := .command w :: s.inputs }

end Sys2Proof.Machine
end

