-- ==== Sys2Proof/Machine/Step.lean ====
section
/-! DEFINITION. One step of the machine: one host command, one tick or one reset (spec/00_scope.md R15, 70_reset_and_hazards.md
R210). -/

namespace Sys2Proof.Machine

/-- One step (R15). -/
def step (s : State) : Host.Outcome State Fault Refusal := nextEvent s

/-- The state whose next step is the command spelled by the low `nbits` bits of `w`, every higher bit 0. The core runs no
stored program: the host delivers each command from outside (R67; log entry 7). -/
def State.withFetchWord (s : State) (nbits w : Nat) : State := issue (tableWord nbits w) s

end Sys2Proof.Machine
end

