-- ==== Sys2Proof/Safety.lean ====
section
/-! DEFINITION. The terms claims are made in: the invariants of spec/10_state.md R44 and R163, runs of timer firings
(42_tick_sequencer.md, section 3), and the durations and waveform of R154-R160. -/

namespace Sys2Proof.Machine

/-! ### Invariants -/

/-- The values `BIT_MASK` takes: one-hot or zero (R41, R44). -/
def maskValues : List (BitVec 8) := [0x80, 0x40, 0x20, 0x10, 0x08, 0x04, 0x02, 0x01, 0x00]

/-- The invariants R44 lists for every boundary between steps. -/
abbrev ruleR44 (s : State) : Prop :=
  s.active = s.timerEn ∧
  (s.active = false → s.framing = .idle) ∧
  (s.active = true → s.configured = true) ∧
  legalRepeat s.cfgRepeat ∧
  (s.active = true → s.repCnt.toNat < s.cfgRepeat.toNat) ∧
  s.byteIdx.toNat ≤ 10 ∧
  s.bitMask ∈ maskValues

/-- Where the cursor points: the unused state code is not held (R152), `BYTE_IDX` is in 0..9 wherever a byte of the frame is
about to be read or being read (R163), a byte's mask is not exhausted while its bits are sent (R41), and a frame in
transmission is fully written (R121). -/
abbrev cursorOk (s : State) : Prop :=
  s.framing ≠ .unused7 ∧
  (s.framing = .byteStart → s.byteIdx.toNat < 10) ∧
  (s.framing = .sendByte → s.byteIdx.toNat < 10 ∧ s.bitMask ≠ 0) ∧
  (s.active = true → frameWritten s = true)

/-- The invariant of the machine: admissible parameters (R9, R93), R44, the cursor, and storage in canonical form. -/
abbrev Inv (s : State) : Prop := s.params.ok ∧ ruleR44 s ∧ cursorOk s ∧ Memory.wf s.nvm

/-! ### Runs of ticks -/

/-- `n` firings of the timer in a row. -/
def tickRun : Nat → State → Host.Outcome State Fault Refusal
  | 0, s => .next s
  | n + 1, s =>
    match tickEvent s with
    | .next t => tickRun n t
    | .fault f => .fault f
    | .refused r => .refused r

/-- The next tick is a zero event, of framing state `f` (R143). -/
abbrev zeroEventDue (f : Framing) (s : State) : Prop := s.timerEn = true ∧ s.framing = f ∧ s.toggle = 1

/-- A state right after an arm wrote the cursor, before the first tick (R121). -/
abbrev justArmed (s : State) : Prop :=
  s.active = true ∧ s.framing = .idle ∧ s.toggle = s.cfgHigh ∧ s.repCnt = 0

/-- Two states that differ at most in the response last returned and in the events still to come. -/
abbrev sameCore (s t : State) : Prop := { s with rsp := none, inputs := [] } = { t with rsp := none, inputs := [] }

/-- The configuration registers are the same (R22-R31). -/
abbrev sameConfig (s t : State) : Prop :=
  t.cfgLow = s.cfgLow ∧ t.cfgHigh = s.cfgHigh ∧ t.cfgTrail = s.cfgTrail ∧ t.cfgGap = s.cfgGap ∧
  t.cfgGapmul = s.cfgGapmul ∧ t.cfgRepeat = s.cfgRepeat ∧ t.cfgInvert = s.cfgInvert ∧
  t.cfgPeriod = s.cfgPeriod ∧ t.cfgPin = s.cfgPin

/-- The transmit cursor is the same (R36-R42). -/
abbrev sameCursor (s t : State) : Prop :=
  t.framing = s.framing ∧ t.toggle = s.toggle ∧ t.repCnt = s.repCnt ∧ t.byteIdx = s.byteIdx ∧
  t.bitMask = s.bitMask ∧ t.gapRep = s.gapRep

/-- Every byte of storage, the access log and the draws are the same (R53). -/
abbrev sameStorage (s t : State) : Prop :=
  (∀ a : Nat, Memory.read t.nvm a = Memory.read s.nvm a) ∧ t.nvmLog = s.nvmLog ∧ t.draws = s.draws

/-- The next step is a tick step: the timer runs and no command or reset comes first. -/
abbrev tickNext (s : State) : Prop :=
  s.timerEn = true ∧ (s.inputs = [] ∨ ∃ rest, s.inputs = .tick :: rest)

/-- The next step is the command `i`. -/
abbrev commandNext (i : Instr) (s : State) : Prop :=
  ∃ w rest, s.inputs = .command w :: rest ∧ decode w = .ok i

/-- The next step is a reset. -/
abbrev resetNext (s : State) : Prop := ∃ rest, s.inputs = .reset :: rest

/-- The bit of the frame that a `send_byte` zero event tests (R148). -/
def bitTested (s : State) (h : s.byteIdx.toNat < 10) : Bool := s.buf[s.byteIdx.toNat].val &&& s.bitMask != 0

/-- The pin after the trailing event that a tick on a counter of 1 takes when `CFG_TRAIL = 0` (R142, R144). -/
def pinAfterTrailing (s : State) : Level := if s.cfgTrail = 0 then offLevel s else s.txOut

/-- The number of ticks among a list of events. -/
def tickCount (l : List Input) : Nat := l.count .tick

/-! ### Durations -/

/-- `eff(K)`: the ticks a reload of `K` lasts (R154). -/
def eff (k : BitVec 8) : Nat := if k = 0 then 256 else k.toNat

/-- The 1 bits of a byte. -/
def ones (b : Byte) : Nat := (List.range 8).countP (fun k => b.getLsbD k)

/-- `n1`: the 1 bits of the frame (R158). -/
def frameOnes (s : State) : Nat := (s.buf.toList.map (fun b => ones b.val)).sum

/-- The ticks of the gap states, `(M + 1) * eff(G)` (R157). -/
def gapTicks (s : State) : Nat := (s.cfgGapmul.toNat + 1) * eff s.cfgGap

/-- `P`, the ticks of one repetition (R158). -/
def repetitionTicks (s : State) : Nat :=
  (13 + frameOnes s) * eff s.cfgHigh + (80 - frameOnes s) * eff s.cfgLow + gapTicks s

/-- The ticks from an arm to READY, `eff(H) + R * P` (R159). -/
def ticksToReady (s : State) : Nat := eff s.cfgHigh + s.cfgRepeat.toNat * repetitionTicks s

/-! ### The waveform of one repetition -/

/-- An ON symbol, tick by tick: ON, then OFF for the last `CFG_TRAIL` ticks (R155). -/
def onSymbol (s : State) : List Bool :=
  List.replicate (eff s.cfgHigh - s.cfgTrail.toNat) true ++ List.replicate s.cfgTrail.toNat false

/-- The symbol of one bit (R155, R156). -/
def bitSymbol (s : State) (bit : Bool) : List Bool :=
  if bit then onSymbol s else List.replicate (eff s.cfgLow) false

/-- The symbols of one byte: one ON symbol, then its bits from bit 7 to bit 0 (R147, R148, R160). -/
def byteSymbols (s : State) (b : Byte) : List Bool :=
  onSymbol s ++ [7, 6, 5, 4, 3, 2, 1, 0].flatMap (fun k => bitSymbol s (b.getLsbD k))

/-- The pin over one repetition, tick by tick, true for ON (R160): the start symbol, the ten bytes, the end symbol, and
silence up to the next repetition (R157). -/
def repetitionWave (s : State) : List Bool :=
  onSymbol s ++ s.buf.toList.flatMap (fun b => byteSymbols s b.val) ++ onSymbol s ++
    List.replicate (gapTicks s) false ++ List.replicate (eff s.cfgHigh) false

/-- The electrical level of a logical level (R29). -/
def levelOf (s : State) (on : Bool) : Level := if on then onLevel s else offLevel s

end Sys2Proof.Machine
end

