-- ==== Sys2Proof/Certificates/Slice0/Obligations.lean ====
section
/-! DEFINITION. The statements for the provers. Rule numbers are those of spec/; each docstring names the rule or the
spec sections a statement formalises. -/

open Sys2Proof Sys2Proof.Machine

/-! ### Encoding -/

/-- Decoding the encoder's word of a command gives the command back, every operand at every value (R71-R75). -/
def Obligations.DecodeOfEncode : Prop := ∀ i : Instr, decode (encode i) = .ok i

/-- A word that spells a command is, with its reserved bits cleared, the encoder's word of that command (R71-R75, R79). -/
def Obligations.EncodeOfDecode : Prop := ∀ (w : Cmd) (i : Instr), decode w = .ok i → encode i = clearReserved w

/-- R79: a command step on a word is the command step on the word with its reserved bits cleared. -/
def Obligations.ReservedBitsIgnored : Prop :=
  ∀ (w : Cmd) (s : State), commandStep w s = commandStep (clearReserved w) s

/-- The words that spell a command are exactly those whose `CMD[7:0]` is `0x01`..`0x07` (R72, R78). -/
def Obligations.DecodesExactlyLegalWords : Prop := ∀ w : Cmd, (∃ i, decode w = .ok i) ↔ legalWord w = true

/-- R103, R78: a word with `OP` 0 or 8..15, or with `CMD[7:4]` not 0, is answered ILLEGAL (with READY as `ACTIVE` says)
and changes nothing else; the all-zero word is such a word. -/
def Obligations.IllegalWordAnswered : Prop :=
  (∀ (w : Cmd) (s : State),
    w.extractLsb' 0 4 = 0 ∨ 8 ≤ (w.extractLsb' 0 4).toNat ∨ w.extractLsb' 4 4 ≠ 0 →
    commandStep w s = .next { s with rsp := some (if s.active then 0x02 else 0x06) }) ∧
  ∀ s : State, commandStep 0 s = .next { s with rsp := some (if s.active then 0x02 else 0x06) }

/-- Sanity: seven command words of 95_test_vectors.md V4 decode as that table says. -/
def Obligations.SampleWordsDecode : Prop :=
  decode 0x0000000000000000000003E800030501 = .ok (.setup 5 3 false 1000) ∧
  decode 0x00000000000000000000000A02040602 = .ok (.cfgTiming 6 4 2 10) ∧
  decode 0x00000000000000000000000000FFFF03 = .ok (.cfgGapmul 65535) ∧
  decode 0x000000000000000000000E0D0C0B0A04 = .ok (.setAddr #v[0xA, 0xB, 0xC, 0xD, 0xE]) ∧
  decode 0x00000000000908070605040302010005 = .ok (.sendRaw #v[0, 1, 2, 3, 4, 5, 6, 7, 8, 9]) ∧
  decode 0x000000000000000000000004021F0306 = .ok (.sendCmd 3 0x1F 2 4) ∧
  decode 0x00000000000000000000000000000007 = .ok .isReady

/-! ### Steps -/

/-- When the host's next event is a word that spells the command `i`, the step is `exec` of `i` on the state with that
event taken off the events to come (R15, R100). -/
def Obligations.StepRunsDecodedCommand : Prop :=
  ∀ (s : State) (w : Cmd) (rest : List Input) (i : Instr),
    s.inputs = .command w :: rest → decode w = .ok i → step s = exec i { s with inputs := rest }

/-- A firing of the timer is a tick step while `TIMER_EN = 1` and nothing while it is 0 (R140, R185); with no event left to
come the timer fires, and a core whose timer is stopped waits (R211). The last two are the model's choice, log entry 8. -/
def Obligations.StepDeliversTicks : Prop :=
  (∀ (s : State) (rest : List Input), s.inputs = .tick :: rest →
    step s = if s.timerEn then tickStep { s with inputs := rest } else .next { s with inputs := rest }) ∧
  (∀ s : State, s.inputs = [] → step s = if s.timerEn then tickStep s else .next s)

/-- A reset gives every register its reset value and keeps storage (R210, R47). The equation also says what is the model's
choice: `CFG_PERIOD` and `CFG_PIN` are 0 (log entry 3), the bytes of `BUF` are 0 (log entry 4), no response is held (log
entry 11), and the access log, the draw index and the events to come are kept (log entry 13). -/
def Obligations.StepResetsTheBlock : Prop :=
  ∀ (s : State) (rest : List Input), s.inputs = .reset :: rest →
    step s = .next { State.resetWith s.params with nvm := s.nvm, nvmLog := s.nvmLog, draws := s.draws, inputs := rest }

/-! ### What each command does -/

/-- SETUP without storage (R105, R106, R107): the registers, the polarity's OFF level on the pin, response OK. -/
def Obligations.SetupEffect : Prop :=
  ∀ (pin rep : BitVec 8) (invert : Bool) (period : BitVec 32) (s : State),
    s.active = false → s.params.nvmPresent = false →
    exec (.setup pin rep invert period) s = .next { s with
      cfgPin := pin
      cfgRepeat := if 1 ≤ rep.toNat ∧ rep.toNat ≤ 39 then rep else s.cfgRepeat
      cfgInvert := invert
      cfgPeriod := period
      configured := true
      txOut := if invert then .high else .low
      rsp := some 0x04 }

/-- SETUP with storage (R105, R108, R66): as without, and the five bytes drawn from storage at `NVM_BASE + 0..4`, in that
order, go verbatim into `BUF[4..8]`. The bytes are free values (log entry 9): this holds whatever they are. -/
def Obligations.SetupRestoresAddress : Prop :=
  ∀ (pin rep : BitVec 8) (invert : Bool) (period : BitVec 32) (s : State),
    s.active = false → s.params.nvmPresent = true →
    let a : Nat → BitVec 16 := fun k => s.params.nvmBase + BitVec.ofNat 16 k
    let d : Nat → Byte := fun k => Config.nvmDraw (s.draws + k) (a k) (Memory.read s.nvm (a k).toNat)
    exec (.setup pin rep invert period) s = .next { s with
      cfgPin := pin
      cfgRepeat := if 1 ≤ rep.toNat ∧ rep.toNat ≤ 39 then rep else s.cfgRepeat
      cfgInvert := invert
      cfgPeriod := period
      configured := true
      txOut := if invert then .high else .low
      buf := #v[s.buf[0], s.buf[1], s.buf[2], s.buf[3], ⟨d 0, true⟩, ⟨d 1, true⟩, ⟨d 2, true⟩, ⟨d 3, true⟩, ⟨d 4, true⟩,
        s.buf[9]]
      nvmLog := s.nvmLog ++ [.read (a 0) (d 0), .read (a 1) (d 1), .read (a 2) (d 2), .read (a 3) (d 3), .read (a 4) (d 4)]
      draws := s.draws + 5
      rsp := some 0x04 }

/-- R110: a word with `OP = 0x2` and `CMD[7:4] = 0` is CFG_TIMING with the fields of R74; CFG_TIMING writes the four tick
counts as given and answers OK; while `ACTIVE = 1` it answers BUSY and changes nothing else. -/
def Obligations.CfgTimingEffect : Prop :=
  (∀ w : Cmd, w.extractLsb' 0 8 = 0x02 → decode w =
    .ok (.cfgTiming (w.extractLsb' 8 8) (w.extractLsb' 16 8) (w.extractLsb' 24 8) (w.extractLsb' 32 8))) ∧
  ∀ (low high trail gap : BitVec 8) (s : State),
    (s.active = false → exec (.cfgTiming low high trail gap) s =
      .next { s with cfgLow := low, cfgHigh := high, cfgTrail := trail, cfgGap := gap, rsp := some 0x04 }) ∧
    (s.active = true → exec (.cfgTiming low high trail gap) s = .next { s with rsp := some 0x01 })

/-- R112: a word with `OP = 0x3` and `CMD[7:4] = 0` is CFG_GAPMUL with the field of R74; CFG_GAPMUL writes the multiplier as
given and answers OK; while `ACTIVE = 1` it answers BUSY and changes nothing else. -/
def Obligations.CfgGapmulEffect : Prop :=
  (∀ w : Cmd, w.extractLsb' 0 8 = 0x03 → decode w = .ok (.cfgGapmul (w.extractLsb' 8 16))) ∧
  ∀ (n : BitVec 16) (s : State),
    (s.active = false → exec (.cfgGapmul n) s = .next { s with cfgGapmul := n, rsp := some 0x04 }) ∧
    (s.active = true → exec (.cfgGapmul n) s = .next { s with rsp := some 0x01 })

/-- SET_ADDR (R118, R119, R66): the five encoded bytes go into `BUF[4..8]`, and with persistence enabled to storage at
`NVM_BASE + 0..4` in that order; response OK. Storage is the model's list of the bytes the core wrote (log entries 10, 12 and
15). -/
def Obligations.SetAddrEffect : Prop :=
  ∀ (a : Vector Byte 5) (s : State), s.active = false →
    let e : Fin 5 → Byte := fun k => encodeNibble s.params a[k]
    let x : Nat → BitVec 16 := fun k => s.params.nvmBase + BitVec.ofNat 16 k
    exec (.setAddr a) s = .next { s with
      buf := #v[s.buf[0], s.buf[1], s.buf[2], s.buf[3], ⟨e 0, true⟩, ⟨e 1, true⟩, ⟨e 2, true⟩, ⟨e 3, true⟩, ⟨e 4, true⟩,
        s.buf[9]]
      nvm :=
        if s.params.nvmPersist then
          Memory.write (Memory.write (Memory.write (Memory.write (Memory.write s.nvm (x 0).toNat (e 0)) (x 1).toNat (e 1))
            (x 2).toNat (e 2)) (x 3).toNat (e 3)) (x 4).toNat (e 4)
        else s.nvm
      nvmLog :=
        if s.params.nvmPersist then
          s.nvmLog ++ [.write (x 0) (e 0), .write (x 1) (e 1), .write (x 2) (e 2), .write (x 3) (e 3), .write (x 4) (e 4)]
        else s.nvmLog
      rsp := some 0x04 }

/-- SET_ADDR's stores, byte by byte (R53, R119), in `State.nvm`, the model's own list of the bytes the core wrote (log entry
10): with persistence enabled, the list holds for each of the five addresses its encoded byte, also where the addresses wrap
past `2^16`, and for every other address what it held. That a write takes effect is deduced (log entry 15). Nothing is said of
what a `MemRead` returns, which is a draw (R53, log entry 9), nor of what physical storage holds: a claim about that would be
unsafe. -/
def Obligations.SetAddrStoresEncodedBytes : Prop :=
  ∀ (a : Vector Byte 5) (s : State), s.active = false → s.params.nvmPersist = true →
    ∃ t, exec (.setAddr a) s = .next t ∧
      (∀ i : Fin 5, Memory.read t.nvm (nvAddr s.params i).toNat = some (encodeNibble s.params a[i])) ∧
      (∀ x : Nat, (∀ i : Fin 5, x ≠ (nvAddr s.params i).toNat) → Memory.read t.nvm x = Memory.read s.nvm x)

/-- SEND_RAW (R123, R116, R121): all ten bytes, encoded or verbatim as `TRANSLATE` says, then the arm: the cursor's initial
values, `ACTIVE` and `TIMER_EN` set, response OK and not ready. The pin is not changed. -/
def Obligations.SendRawEffect : Prop :=
  ∀ (b : Vector Byte 10) (s : State), s.active = false → s.configured = true →
    let v : Fin 10 → BufByte := fun k => ⟨if s.params.translate then encodeNibble s.params b[k] else b[k], true⟩
    exec (.sendRaw b) s = .next { s with
      buf := #v[v 0, v 1, v 2, v 3, v 4, v 5, v 6, v 7, v 8, v 9]
      framing := .idle, toggle := s.cfgHigh, repCnt := 0, byteIdx := 0, bitMask := 0x80, gapRep := 0
      active := true, timerEn := true
      rsp := some 0x00 }

/-- SEND_CMD (R125, R115, R121) with an address in `BUF[4..8]`: positions 0..3 and 9 take the encoded fields, the address is
kept, then the arm. -/
def Obligations.SendCmdEffect : Prop :=
  ∀ (command parameter room device : Byte) (s : State), s.active = false → s.configured = true →
    (∀ k : Fin 10, 4 ≤ k.val → k.val ≤ 8 → s.buf[k].written = true) →
    let e : Byte → BufByte := fun n => ⟨encodeNibble s.params n, true⟩
    exec (.sendCmd command parameter room device) s = .next { s with
      buf := #v[e (parameter >>> 4), e (parameter &&& 0xF), e device, e command, s.buf[4], s.buf[5], s.buf[6], s.buf[7],
        s.buf[8], e room]
      framing := .idle, toggle := s.cfgHigh, repCnt := 0, byteIdx := 0, bitMask := 0x80, gapRep := 0
      active := true, timerEn := true
      rsp := some 0x00 }

/-- SEND_CMD with a byte of `BUF[4..8]` never written is the model fault `UNWRITTEN_BUF` (R121, R125, R182). -/
def Obligations.SendCmdStopsOnUnwrittenAddress : Prop :=
  ∀ (command parameter room device : Byte) (s : State), s.active = false → s.configured = true →
    (∃ k : Fin 10, 4 ≤ k.val ∧ k.val ≤ 8 ∧ s.buf[k].written = false) →
    exec (.sendCmd command parameter room device) s = .fault .unwrittenBuf

/-- R127: a word with `OP = 0x7` and `CMD[7:4] = 0` is IS_READY; IS_READY answers OK with `RSP[2] = NOT ACTIVE`, in every
state, and writes nothing else. -/
def Obligations.IsReadyEffect : Prop :=
  (∀ w : Cmd, w.extractLsb' 0 8 = 0x07 → decode w = .ok .isReady) ∧
  ∀ s : State, exec .isReady s = .next { s with rsp := some (if s.active then 0x00 else 0x04) }

/-- R101: while `ACTIVE = 1` every command but IS_READY answers BUSY and changes nothing else, storage included; IS_READY
is not refused. -/
def Obligations.BusyGuard : Prop :=
  ∀ s : State, s.active = true →
    (∀ i : Instr, i ≠ .isReady → exec i s = .next { s with rsp := some 0x01 }) ∧
    exec .isReady s = .next { s with rsp := some 0x00 }

/-- R102: while `CONFIGURED = 0` (and, by R44, `ACTIVE = 0`) SEND_RAW and SEND_CMD answer UNCONFIGURED and change nothing
else; the other commands are accepted. -/
def Obligations.UnconfiguredGuard : Prop :=
  ∀ s : State, s.active = false → s.configured = false →
    (∀ b, exec (.sendRaw b) s = .next { s with rsp := some 0x07 }) ∧
    (∀ c p r d, exec (.sendCmd c p r d) s = .next { s with rsp := some 0x07 }) ∧
    (∀ i : Instr, (∀ b, i ≠ .sendRaw b) → (∀ c p r d, i ≠ .sendCmd c p r d) →
      ∃ t, exec i s = .next t ∧ t.rsp = some 0x04)

/-- The guards of a command step in the order ILLEGAL, BUSY, UNCONFIGURED, on words (R104). -/
def Obligations.GuardOrder : Prop :=
  ∀ (w : Cmd) (s : State),
    (legalWord w = false → commandStep w s = .next { s with rsp := some (if s.active then 0x02 else 0x06) }) ∧
    (legalWord w = true → s.active = true → w.toNat % 16 ≠ 7 → commandStep w s = .next { s with rsp := some 0x01 }) ∧
    (legalWord w = true → s.active = false → s.configured = false → w.toNat % 16 = 5 ∨ w.toNat % 16 = 6 →
      commandStep w s = .next { s with rsp := some 0x07 }) ∧
    (legalWord w = true → s.active = false ∨ w.toNat % 16 = 7 →
      s.configured = true ∨ (w.toNat % 16 ≠ 5 ∧ w.toNat % 16 ≠ 6) →
      ∃ i, decode w = .ok i ∧ commandStep w s = exec i s)

/-! ### What each command leaves unchanged -/

/-- SETUP, CFG_TIMING and CFG_GAPMUL (R105, R110, R112): what each leaves unchanged. Each leaves the parameters, the status
bits `ACTIVE` and `TIMER_EN`, the cursor, every byte of storage (the model's list, log entry 10) and the events to come; the
rest by command. -/
def Obligations.FrameOfConfiguring : Prop :=
  ∀ (s t : State),
    (∀ pin rep invert period, exec (.setup pin rep invert period) s = .next t →
      t.params = s.params ∧ t.active = s.active ∧ t.timerEn = s.timerEn ∧ sameCursor s t ∧ t.inputs = s.inputs ∧
      (∀ a : Nat, Memory.read t.nvm a = Memory.read s.nvm a) ∧
      t.cfgLow = s.cfgLow ∧ t.cfgHigh = s.cfgHigh ∧ t.cfgTrail = s.cfgTrail ∧ t.cfgGap = s.cfgGap ∧
      t.cfgGapmul = s.cfgGapmul ∧
      (∀ k : Fin 10, k.val < 4 ∨ 8 < k.val → t.buf[k] = s.buf[k]) ∧
      (s.params.nvmPresent = false → t.buf = s.buf ∧ t.nvmLog = s.nvmLog ∧ t.draws = s.draws)) ∧
    (∀ low high trail gap, exec (.cfgTiming low high trail gap) s = .next t →
      t.params = s.params ∧ t.active = s.active ∧ t.timerEn = s.timerEn ∧ sameCursor s t ∧ t.inputs = s.inputs ∧
      sameStorage s t ∧ t.cfgGapmul = s.cfgGapmul ∧ t.cfgRepeat = s.cfgRepeat ∧ t.cfgInvert = s.cfgInvert ∧
      t.cfgPeriod = s.cfgPeriod ∧ t.cfgPin = s.cfgPin ∧ t.configured = s.configured ∧ t.txOut = s.txOut ∧
      t.buf = s.buf) ∧
    (∀ n, exec (.cfgGapmul n) s = .next t →
      t.params = s.params ∧ t.active = s.active ∧ t.timerEn = s.timerEn ∧ sameCursor s t ∧ t.inputs = s.inputs ∧
      sameStorage s t ∧ t.cfgLow = s.cfgLow ∧ t.cfgHigh = s.cfgHigh ∧ t.cfgTrail = s.cfgTrail ∧ t.cfgGap = s.cfgGap ∧
      t.cfgRepeat = s.cfgRepeat ∧ t.cfgInvert = s.cfgInvert ∧ t.cfgPeriod = s.cfgPeriod ∧ t.cfgPin = s.cfgPin ∧
      t.configured = s.configured ∧ t.txOut = s.txOut ∧ t.buf = s.buf)

/-- SET_ADDR (R118, R120): it changes `BUF[4..8]`, the response, and with persistence enabled the storage bytes at
`NVM_BASE + 0..4` (in the model's list, log entry 10) and the access log; nothing else, and in particular it does not arm. -/
def Obligations.FrameOfSetAddr : Prop :=
  ∀ (a : Vector Byte 5) (s t : State), exec (.setAddr a) s = .next t →
    t.params = s.params ∧ sameConfig s t ∧ t.configured = s.configured ∧ t.active = s.active ∧ t.timerEn = s.timerEn ∧
    sameCursor s t ∧ t.txOut = s.txOut ∧ t.draws = s.draws ∧ t.inputs = s.inputs ∧
    (∀ k : Fin 10, k.val < 4 ∨ 8 < k.val → t.buf[k] = s.buf[k]) ∧
    (∀ x : Nat, (∀ i : Fin 5, x ≠ (nvAddr s.params i).toNat) → Memory.read t.nvm x = Memory.read s.nvm x) ∧
    (s.params.nvmPersist = false → sameStorage s t)

/-- SEND_RAW, SEND_CMD and IS_READY (R121, R123, R125, R127): no configuration register, no parameter, no byte of storage
(the model's list, log entry 10), not `CONFIGURED` and not the pin; SEND_CMD keeps `BUF[4..8]`; IS_READY keeps everything but
the response. -/
def Obligations.FrameOfSendingAndQuery : Prop :=
  ∀ (s t : State),
    (∀ b, exec (.sendRaw b) s = .next t →
      t.params = s.params ∧ sameConfig s t ∧ t.configured = s.configured ∧ t.txOut = s.txOut ∧ sameStorage s t ∧
      t.inputs = s.inputs) ∧
    (∀ c p r d, exec (.sendCmd c p r d) s = .next t →
      t.params = s.params ∧ sameConfig s t ∧ t.configured = s.configured ∧ t.txOut = s.txOut ∧ sameStorage s t ∧
      t.inputs = s.inputs ∧ (∀ k : Fin 10, 4 ≤ k.val → k.val ≤ 8 → t.buf[k] = s.buf[k])) ∧
    (exec .isReady s = .next t → t = { s with rsp := t.rsp })

/-- Operands that differ only above their low nibble give the same step (R91, R120, R124, R126): SET_ADDR always, SEND_RAW
when it translates, SEND_CMD in `COMMAND`, `ROOM` and `DEVICE`. -/
def Obligations.OnlyLowNibblesMatter : Prop :=
  (∀ (a a' : Vector Byte 5) (s : State), (∀ k : Fin 5, a[k].toNat % 16 = a'[k].toNat % 16) →
    exec (.setAddr a) s = exec (.setAddr a') s) ∧
  (∀ (b b' : Vector Byte 10) (s : State), s.params.translate = true →
    (∀ k : Fin 10, b[k].toNat % 16 = b'[k].toNat % 16) → exec (.sendRaw b) s = exec (.sendRaw b') s) ∧
  (∀ (c p r d c' r' d' : Byte) (s : State), c.toNat % 16 = c'.toNat % 16 → r.toNat % 16 = r'.toNat % 16 →
    d.toNat % 16 = d'.toNat % 16 → exec (.sendCmd c p r d) s = exec (.sendCmd c' p r' d') s)

/-! ### The Nibble Encoder -/

/-- `Encode(n) = SYMBOL_TABLE[n & 0xF]` for every byte (R91), and with a table of distinct symbols two bytes have the same
symbol exactly when their low nibbles agree (R93). -/
def Obligations.EncoderLooksUpLowNibble : Prop :=
  (∀ (p : Params) (n : Byte), p.symbolTable[n.toNat % 16]? = some (encodeNibble p n)) ∧
  (∀ (p : Params) (m n : Byte), distinctSymbols p.symbolTable →
    (encodeNibble p m = encodeNibble p n ↔ m.toNat % 16 = n.toNat % 16))

/-- The default table (R92, R95; the spec marks the table as general knowledge, log entry 1): its symbols are distinct, each
has six 1 bits and no two adjacent 0 bits, and bit 7 is 1 exactly for the nibbles 0x0..0xA. -/
def Obligations.DefaultTableProperties : Prop :=
  distinctSymbols defaultSymbolTable ∧
  (∀ k : Fin 16, ones defaultSymbolTable[k] = 6) ∧
  (∀ (k : Fin 16) (j : Fin 7),
    defaultSymbolTable[k].getLsbD j.val = true ∨ defaultSymbolTable[k].getLsbD (j.val + 1) = true) ∧
  (∀ k : Fin 16, defaultSymbolTable[k].getLsbD 7 = true ↔ k.val ≤ 10)

/-! ### The tick step -/

/-- A tick that does not bring the counter to 0 (R141, R142): it decrements `TOGGLE` modulo 256 and, when the new value is
`CFG_TRAIL`, drives OFF; nothing else, in every framing state. -/
def Obligations.QuietTick : Prop :=
  ∀ s : State, s.framing ≠ .unused7 → s.toggle ≠ 1 →
    tickStep s = .next { s with
      toggle := s.toggle - 1
      txOut := if s.toggle - 1 = s.cfgTrail then (if s.cfgInvert then .high else .low) else s.txOut }

/-- The zero event of `idle` (R145, R143, R144). -/
def Obligations.ZeroEventIdle : Prop :=
  ∀ s : State, s.framing = .idle → s.toggle = 1 →
    tickStep s = .next { s with
      toggle := s.cfgHigh
      txOut := pinAfterTrailing s
      repCnt := if s.active then 0 else s.repCnt
      framing := if s.active then .msgStart else .idle }

/-- The zero event of `msg_start` (R146, R143): the pin is ON also when the trailing event falls in the same tick (R144). -/
def Obligations.ZeroEventMsgStart : Prop :=
  ∀ s : State, s.framing = .msgStart → s.toggle = 1 →
    tickStep s = .next { s with
      toggle := s.cfgHigh, txOut := if s.cfgInvert then .low else .high, byteIdx := 0, framing := .byteStart }

/-- The zero event of `byte_start` (R147, R143, R144). -/
def Obligations.ZeroEventByteStart : Prop :=
  ∀ s : State, s.framing = .byteStart → s.toggle = 1 →
    tickStep s = .next { s with
      toggle := s.cfgHigh, txOut := if s.cfgInvert then .low else .high, bitMask := 0x80, framing := .sendByte }

/-- The zero event of `send_byte` (R148, R143, R144): a 1 bit drives ON for `CFG_HIGH`, a 0 bit drives nothing for `CFG_LOW`;
the mask shifts right; after a byte's last bit the next byte, after the tenth byte `msg_end`. -/
def Obligations.ZeroEventSendByte : Prop :=
  ∀ (s : State) (h : s.byteIdx.toNat < 10), s.framing = .sendByte → s.toggle = 1 →
    tickStep s = .next { s with
      toggle := if bitTested s h then s.cfgHigh else s.cfgLow
      txOut := if bitTested s h then onLevel s else pinAfterTrailing s
      bitMask := s.bitMask >>> 1
      byteIdx := if s.bitMask >>> 1 = 0 then s.byteIdx + 1 else s.byteIdx
      framing :=
        if s.bitMask >>> 1 = 0 then (if s.byteIdx = 9 then .msgEnd else .byteStart) else .sendByte }

/-- The zero event of `msg_end` (R149, R143, R144). -/
def Obligations.ZeroEventMsgEnd : Prop :=
  ∀ s : State, s.framing = .msgEnd → s.toggle = 1 →
    tickStep s = .next { s with
      toggle := s.cfgHigh, txOut := if s.cfgInvert then .low else .high, gapRep := s.cfgGapmul, framing := .gapStart }

/-- The zero event of `gap_start` (R150, R144): reload `CFG_GAP`; leave when `GAP_REP` is 0, else count it down and stay. -/
def Obligations.ZeroEventGapStart : Prop :=
  ∀ s : State, s.framing = .gapStart → s.toggle = 1 →
    tickStep s = .next { s with
      toggle := s.cfgGap
      txOut := pinAfterTrailing s
      gapRep := if s.gapRep = 0 then 0 else s.gapRep - 1
      framing := if s.gapRep = 0 then .gapEnd else .gapStart }

/-- The zero event of `gap_end` (R151, R143, R144): count the repetition; at the limit stop the timer, clear `ACTIVE` and
return to `idle`, else start the next repetition. -/
def Obligations.ZeroEventGapEnd : Prop :=
  ∀ s : State, s.framing = .gapEnd → s.toggle = 1 →
    (s.cfgRepeat.toNat ≤ (s.repCnt + 1).toNat → tickStep s = .next { s with
      toggle := s.cfgHigh, txOut := pinAfterTrailing s, repCnt := s.repCnt + 1
      timerEn := false, active := false, framing := .idle }) ∧
    ((s.repCnt + 1).toNat < s.cfgRepeat.toNat → tickStep s = .next { s with
      toggle := s.cfgHigh, txOut := pinAfterTrailing s, repCnt := s.repCnt + 1, framing := .msgStart })

/-- What no tick step changes, whatever the state (R22, R35, R94, R162): the parameters, every configuration register,
`CONFIGURED`, the frame, storage (the model's list, log entry 10), the response (log entry 11) and the events to come. -/
def Obligations.FrameOfTick : Prop :=
  ∀ s t : State, tickStep s = .next t →
    t.params = s.params ∧ sameConfig s t ∧ t.configured = s.configured ∧ t.buf = s.buf ∧ sameStorage s t ∧
    t.rsp = s.rsp ∧ t.inputs = s.inputs

/-- When a tick step stops the model: exactly with the state code 7 (`BAD_STATE`, R152, R182; log entry 5) or in a `send_byte` zero event
with `BYTE_IDX` of 10 or more (the model's choice, log entry 6). It is never refused. -/
def Obligations.TickStopsOnlyByName : Prop :=
  ∀ s : State,
    (∀ f, tickStep s = .fault f ↔
      (s.framing = .unused7 ∧ f = .badState) ∨
      (s.framing = .sendByte ∧ s.toggle = 1 ∧ 10 ≤ s.byteIdx.toNat ∧ f = .frameOverrun)) ∧
    (∀ r, tickStep s ≠ .refused r)

/-! ### Reset and invariants -/

/-- The reset values the spec states (R47): every register but `CFG_PERIOD`, `CFG_PIN` and the bytes of `BUF`, which have
none; no byte of the frame is marked written; for every choice of the parameters. -/
def Obligations.ResetValues : Prop :=
  ∀ p : Params,
    let s := State.resetWith p
    s.cfgLow = p.lowRst ∧ s.cfgHigh = p.highRst ∧ s.cfgTrail = p.trailRst ∧ s.cfgGap = p.gapRst ∧ s.cfgGapmul = 0 ∧
    s.cfgRepeat = p.repeatRst ∧ s.cfgInvert = false ∧ s.configured = false ∧ s.active = false ∧ s.timerEn = false ∧
    (∀ k : Fin 10, s.buf[k].written = false) ∧ s.framing = .idle ∧ framingCode s.framing = 0 ∧ s.toggle = 0 ∧
    s.repCnt = 0 ∧ s.byteIdx = 0 ∧ s.bitMask = 0x80 ∧ s.gapRep = 0 ∧ s.txOut = .z ∧ s.params.symbolTable = p.symbolTable

/-- The invariant holds after reset, for all admissible parameters and for those of `State.reset` (log entries 1 and 2). -/
def Obligations.InvariantAtReset : Prop := (∀ p : Params, p.ok → Inv (State.resetWith p)) ∧ Inv State.reset

/-- Every step keeps the invariant: R44, the cursor's bounds (R163), the parameters' conditions (held in State, log entry 1),
and the model's list of storage bytes in canonical form (log entry 10). -/
def Obligations.StepKeepsInvariant : Prop := ∀ s t : State, Inv s → step s = .next t → Inv t

/-- From a state that meets the invariant a step stops in one case only: a SEND_CMD, idle and configured, with a byte of
`BUF[4..8]` never written (R121, R180, R163). -/
def Obligations.OnlyAnUnwrittenSendStops : Prop :=
  ∀ s : State, Inv s →
    (∃ t, step s = .next t) ∨
    (step s = .fault .unwrittenBuf ∧ s.active = false ∧ s.configured = true ∧
      (∃ c p r d, commandNext (.sendCmd c p r d) s) ∧
      ∃ k : Fin 10, 4 ≤ k.val ∧ k.val ≤ 8 ∧ s.buf[k].written = false)

/-- The list `State.nvm` stays in canonical form in every step from every state where it is. The list and its canonical form,
strictly rising addresses below `2^16`, are the model's own representation of storage (log entry 10, DESIGN CHOICE); R9 and
R53 are cited only for the address width, `W_NVA` = 16 bits. -/
def Obligations.StorageStaysCanonical : Prop :=
  ∀ s t : State, Memory.wf s.nvm → step s = .next t → Memory.wf t.nvm

/-- No step changes the parameters, the symbol table among them (R94, R116). That State holds them is the model's choice (log
entry 1). -/
def Obligations.ParametersNeverChange : Prop := ∀ s t : State, step s = .next t → t.params = s.params

/-- With storage neither restored from nor persisted to, no step touches the model's list of its bytes, the access log or the
draws (R54; log entries 9, 10 and 12). -/
def Obligations.StorageUntouchedWhenUnused : Prop :=
  ∀ s t : State, s.params.nvmPresent = false → s.params.nvmPersist = false → step s = .next t →
    t.nvm = s.nvm ∧ t.nvmLog = s.nvmLog ∧ t.draws = s.draws

/-- A configuration register changes only in a SETUP, CFG_TIMING or CFG_GAPMUL taken while `ACTIVE = 0`, or in a reset
(R22). -/
def Obligations.ConfigurationWriters : Prop :=
  ∀ s t : State, step s = .next t → ¬ sameConfig s t →
    resetNext s ∨
    (s.active = false ∧
      ((∃ pin rep invert period, commandNext (.setup pin rep invert period) s) ∨
       (∃ low high trail gap, commandNext (.cfgTiming low high trail gap) s) ∨
       ∃ n, commandNext (.cfgGapmul n) s))

/-- `ACTIVE` is set only by a SEND_RAW or SEND_CMD of a configured core, and cleared only by the `gap_end` zero event that
reaches the repeat limit, or by reset (R33, R128); `CONFIGURED` is set only by SETUP and cleared only by reset (R32). -/
def Obligations.StatusBitWriters : Prop :=
  ∀ s t : State, step s = .next t →
    (s.active = false → t.active = true → s.configured = true ∧
      ((∃ b, commandNext (.sendRaw b) s) ∨ ∃ c p r d, commandNext (.sendCmd c p r d) s)) ∧
    (s.active = true → t.active = false →
      resetNext s ∨
      (tickNext s ∧ zeroEventDue .gapEnd s ∧ s.cfgRepeat.toNat ≤ (s.repCnt + 1).toNat)) ∧
    (s.configured = false → t.configured = true →
      ∃ pin rep invert period, commandNext (.setup pin rep invert period) s) ∧
    (s.configured = true → t.configured = false → resetNext s)

/-- The pin changes only in a tick step, a SETUP taken while idle, or a reset (R38); a byte of the frame changes only in a
SETUP that restores, SET_ADDR, SEND_RAW or SEND_CMD taken while idle, or in a reset (R35, R69). -/
def Obligations.PinAndFrameWriters : Prop :=
  ∀ s t : State, step s = .next t →
    (t.txOut ≠ s.txOut →
      resetNext s ∨ tickNext s ∨
      (s.active = false ∧ ∃ pin rep invert period, commandNext (.setup pin rep invert period) s)) ∧
    (t.buf ≠ s.buf →
      resetNext s ∨
      (s.active = false ∧
        ((s.params.nvmPresent = true ∧ ∃ pin rep invert period, commandNext (.setup pin rep invert period) s) ∨
         (∃ a, commandNext (.setAddr a) s) ∨ (∃ b, commandNext (.sendRaw b) s) ∨
         ∃ c p r d, commandNext (.sendCmd c p r d) s)))

/-- While `ACTIVE = 1` a command step, whatever the word, changes nothing but the response, and that is OK, BUSY or ILLEGAL
without READY (R45, R101, R103). -/
def Obligations.CommandWhileActiveOnlyAnswers : Prop :=
  ∀ (s : State) (w : Cmd) (rest : List Input), s.active = true → s.inputs = .command w :: rest →
    ∃ r : Byte, (r = 0x00 ∨ r = 0x01 ∨ r = 0x02) ∧ step s = .next { s with inputs := rest, rsp := some r }

/-! ### Symbol periods and the waveform -/

/-- R154: with `TOGGLE = K` the next zero event is exactly the `eff(K)`-th tick; until then only the counter moves, and the
pin where the trailing event drives it OFF. -/
def Obligations.SymbolPeriod : Prop :=
  ∀ (s : State) (n : Nat), s.timerEn = true → s.framing ≠ .unused7 → n < eff s.toggle →
    ∃ t, tickRun n s = .next t ∧
      t = { s with
        toggle := BitVec.ofNat 8 (eff s.toggle - n)
        txOut := if s.cfgTrail.toNat < eff s.toggle ∧ eff s.toggle ≤ n + s.cfgTrail.toNat then offLevel s else s.txOut } ∧
      (zeroEventDue s.framing t ↔ n + 1 = eff s.toggle)

/-- An ON symbol (R155): from the tick of a zero event that drives ON, the pin is ON until the trailing event, `eff(H) - T`
ticks later when `T < eff(H)`, and OFF from then to the end of the period; with `T >= eff(H)` it is ON throughout. -/
def Obligations.OnSymbolLevels : Prop :=
  ∀ (s : State) (n : Nat),
    (zeroEventDue .msgStart s ∨ zeroEventDue .byteStart s ∨ zeroEventDue .msgEnd s ∨
      (zeroEventDue .sendByte s ∧ ∃ h, bitTested s h = true)) →
    n < eff s.cfgHigh →
    ∃ t, tickRun (n + 1) s = .next t ∧
      t.txOut =
        if s.cfgTrail.toNat < eff s.cfgHigh ∧ eff s.cfgHigh ≤ n + s.cfgTrail.toNat then offLevel s else onLevel s

/-- A 0 bit (R156): its zero event leaves `TOGGLE = CFG_LOW`, and a pin that is OFF before it stays OFF for its whole
`eff(L)` ticks. -/
def Obligations.ZeroBitIsSilent : Prop :=
  ∀ (s : State) (h : s.byteIdx.toNat < 10) (n : Nat),
    zeroEventDue .sendByte s → bitTested s h = false → s.txOut = offLevel s → n < eff s.cfgLow →
    ∃ t, tickRun (n + 1) s = .next t ∧ t.txOut = offLevel s ∧ t.toggle = BitVec.ofNat 8 (eff s.cfgLow - n)

/-- The gap (R150, R157): from the first `gap_start` zero event with `GAP_REP = m` there are `m + 1` of them, `eff(G)` ticks
apart, no other zero event between them, and the `gap_end` zero event follows `(m + 1) * eff(G)` ticks after the first. -/
def Obligations.GapLength : Prop :=
  ∀ s : State, zeroEventDue .gapStart s →
    (∀ k : Nat, k ≤ s.gapRep.toNat →
      ∃ t, tickRun (k * eff s.cfgGap) s = .next t ∧ zeroEventDue .gapStart t ∧ t.gapRep.toNat = s.gapRep.toNat - k) ∧
    (∃ t, tickRun ((s.gapRep.toNat + 1) * eff s.cfgGap) s = .next t ∧ zeroEventDue .gapEnd t) ∧
    (∀ (n : Nat) (f : Framing) (t : State), n < (s.gapRep.toNat + 1) * eff s.cfgGap → tickRun n s = .next t →
      zeroEventDue f t → f = .gapStart ∧ n % eff s.cfgGap = 0)

/-- R158: the distance between two successive `msg_start` zero events is `P`, with `n1` the 1 bits of the frame; for a frame
of ten symbols of the default table `P = 73 * eff(H) + 20 * eff(L) + (M + 1) * eff(G)`. -/
def Obligations.TicksPerRepetition : Prop :=
  (∀ s : State, zeroEventDue .msgStart s → s.repCnt.toNat + 1 < s.cfgRepeat.toNat →
    (∃ t, tickRun ((13 + frameOnes s) * eff s.cfgHigh + (80 - frameOnes s) * eff s.cfgLow +
          (s.cfgGapmul.toNat + 1) * eff s.cfgGap) s = .next t ∧
      zeroEventDue .msgStart t ∧ t.repCnt = s.repCnt + 1) ∧
    (∀ (n : Nat) (t : State), 0 < n → n < repetitionTicks s → tickRun n s = .next t → ¬ zeroEventDue .msgStart t)) ∧
  (∀ s : State, (∀ k : Fin 10, s.buf[k].val ∈ defaultSymbolTable.toList) →
    repetitionTicks s = 73 * eff s.cfgHigh + 20 * eff s.cfgLow + (s.cfgGapmul.toNat + 1) * eff s.cfgGap)

/-- R159: counting from the arm, `ACTIVE` is 1 for all ticks before number `eff(H) + R * P` and 0 from that tick on, and the
`k`-th repetition's `msg_start` zero event is tick `2 * eff(H) + (k - 1) * P`. -/
def Obligations.TicksToReady : Prop :=
  ∀ s : State, Inv s → justArmed s →
    (∀ n : Nat, n < eff s.cfgHigh + s.cfgRepeat.toNat * repetitionTicks s →
      ∃ t, tickRun n s = .next t ∧ t.active = true) ∧
    (∀ n : Nat, eff s.cfgHigh + s.cfgRepeat.toNat * repetitionTicks s ≤ n →
      ∃ t, tickRun n s = .next t ∧ t.active = false ∧ exec .isReady t = .next { t with rsp := some 0x04 }) ∧
    (∀ k : Nat, 1 ≤ k → k ≤ s.cfgRepeat.toNat →
      ∃ t, tickRun (2 * eff s.cfgHigh + (k - 1) * repetitionTicks s - 1) s = .next t ∧ zeroEventDue .msgStart t ∧
        t.repCnt.toNat = k - 1)

/-- The frame on the wire (R160, R155-R157): when `T < eff(H)`, the pin after each tick of a repetition, counted from its
`msg_start` zero event, is the start symbol, then for `BUF[0]` to `BUF[9]` one ON symbol and the eight bits from bit 7 down,
then the end symbol and the gap; the whole lasts `P` ticks. -/
def Obligations.WaveformOfARepetition : Prop :=
  ∀ s : State, zeroEventDue .msgStart s → s.cfgTrail.toNat < eff s.cfgHigh →
    (repetitionWave s).length = repetitionTicks s ∧
    ∀ (n : Nat) (h : n < (repetitionWave s).length),
      ∃ t, tickRun (n + 1) s = .next t ∧ t.txOut = levelOf s (repetitionWave s)[n]

/-- R161: after an arm tick `eff(H)` is the `idle` zero event, no zero event that can drive ON comes before tick
`2 * eff(H)`, and that tick is the `msg_start` zero event and leaves the pin ON; a pin that is OFF at the arm is OFF until
then. -/
def Obligations.StartLatency : Prop :=
  ∀ s : State, Inv s → justArmed s →
    (∀ (n : Nat) (t : State), n + 1 < 2 * eff s.cfgHigh → tickRun n s = .next t →
      ¬ zeroEventDue .msgStart t ∧ ¬ zeroEventDue .byteStart t ∧ ¬ zeroEventDue .sendByte t ∧ ¬ zeroEventDue .msgEnd t) ∧
    (∃ t, tickRun (eff s.cfgHigh - 1) s = .next t ∧ zeroEventDue .idle t) ∧
    (∃ t, tickRun (2 * eff s.cfgHigh - 1) s = .next t ∧ zeroEventDue .msgStart t) ∧
    (∃ t, tickRun (2 * eff s.cfgHigh) s = .next t ∧ t.txOut = onLevel s) ∧
    (s.txOut = offLevel s → ∀ n : Nat, n < 2 * eff s.cfgHigh → ∃ t, tickRun n s = .next t ∧ t.txOut = offLevel s)

/-- R162: the state after the tick that ends a transmission: the status bits and the cursor as listed there, the pin OFF
when `T < eff(H)` or `T < eff(G)` and ON otherwise, and everything else, the frame and the configuration among it, as it was
at the arm. -/
def Obligations.StateAfterTransmission : Prop :=
  ∀ s : State, Inv s → justArmed s →
    tickRun (eff s.cfgHigh + s.cfgRepeat.toNat * repetitionTicks s) s = .next { s with
      active := false, timerEn := false, framing := .idle, toggle := s.cfgHigh, repCnt := s.cfgRepeat
      byteIdx := 10, bitMask := 0, gapRep := 0
      txOut :=
        if s.cfgTrail.toNat < eff s.cfgHigh ∨ s.cfgTrail.toNat < eff s.cfgGap then offLevel s else onLevel s }

/-- The order of commands and ticks does not matter to a transmission (R186, R45). That the order is a list held in State is
the model's choice (log entry 7). Any list of commands and ticks, in any order, delivered while the transmission lasts, leaves
the core as its ticks alone leave it, but for the response and the events to come. -/
def Obligations.CommandsDoNotDisturbATransmission : Prop :=
  ∀ (l : List Input) (s : State), Input.reset ∉ l →
    (∀ n : Nat, n ≤ tickCount l → ∃ u, tickRun n s = .next u ∧ u.active = true ∧ u.timerEn = true) →
    ∃ t u, Host.Core.run Sys2Proof.core l.length { s with inputs := l } = .next t ∧
      tickRun (tickCount l) s = .next u ∧ sameCore t u ∧ t.inputs = []
end

