-- ==== Sys2Proof/Laws/Memory.lean ====
section
/-! SUPPORT. Storage: what a write does to every address, and that it keeps the canonical form. -/

namespace Sys2Proof.Machine

theorem read_write_same (m : List Host.Cell) (a : Nat) (v : Byte) :
    Memory.read (Memory.write m a v) a = some v := by
  induction m with
  | nil => simp [Memory.write, Memory.read]
  | cons c m ih =>
    obtain ⟨b, u⟩ := c
    by_cases h1 : a < b
    · simp [Memory.write, Memory.read, h1]
    · by_cases h2 : a = b
      · simp [Memory.write, Memory.read, h2]
      · simp [Memory.write, Memory.read, h1, h2, ih]

theorem read_write_other (m : List Host.Cell) {a x : Nat} (v : Byte) (h : x ≠ a) :
    Memory.read (Memory.write m a v) x = Memory.read m x := by
  induction m with
  | nil => simp [Memory.write, Memory.read, h]
  | cons c m ih =>
    obtain ⟨b, u⟩ := c
    by_cases h1 : a < b
    · simp [Memory.write, Memory.read, h1, h]
    · by_cases h2 : a = b
      · subst h2; simp [Memory.write, Memory.read, h]
      · simp [Memory.write, Memory.read, h1, h2, ih]

/-- The addresses of a written memory are the old ones and the new one. -/
theorem mem_write {m : List Host.Cell} {a : Nat} {v : Byte} {c : Host.Cell} (h : c ∈ Memory.write m a v) :
    c = (a, v) ∨ c ∈ m := by
  induction m with
  | nil => simpa [Memory.write] using h
  | cons d m ih =>
    obtain ⟨b, u⟩ := d
    simp only [Memory.write] at h
    split at h
    · simpa using h
    · split at h
      · simp only [List.mem_cons] at h ⊢; tauto
      · simp only [List.mem_cons] at h ⊢; tauto

/-- A write keeps the canonical form. -/
theorem write_wf {m : List Host.Cell} {a : Nat} (v : Byte) (ha : a < 65536) (h : Memory.wf m) :
    Memory.wf (Memory.write m a v) := by
  refine ⟨?_, fun c hc => ?_⟩
  · replace h := h.1
    induction m with
    | nil => simp [Memory.write]
    | cons d m ih =>
      obtain ⟨b, u⟩ := d
      simp only [List.map_cons, List.pairwise_cons, List.mem_map, forall_exists_index, and_imp] at h
      simp only [Memory.write]
      split
      · rename_i hab
        simp only [List.map_cons, List.pairwise_cons, List.mem_cons, List.mem_map]
        refine ⟨?_, ?_, h.2⟩
        · rintro x (rfl | ⟨c, hc, rfl⟩)
          · exact hab
          · exact hab.trans (h.1 _ c hc rfl)
        · rintro x ⟨c, hc, rfl⟩; exact h.1 _ c hc rfl
      · split
        · rename_i hab; subst hab
          simp only [List.map_cons, List.pairwise_cons, List.mem_map]
          exact ⟨by rintro x ⟨c, hc, rfl⟩; exact h.1 _ c hc rfl, h.2⟩
        · rename_i h1 h2
          simp only [List.map_cons, List.pairwise_cons, List.mem_map]
          refine ⟨?_, ih h.2⟩
          rintro x ⟨c, hc, rfl⟩
          rcases mem_write hc with rfl | hc
          · show b < a
            omega
          · exact h.1 _ c hc rfl
  · rcases mem_write hc with rfl | hc
    · exact ha
    · exact h.2 c hc

/-- A series of writes to 16-bit addresses keeps the canonical form. -/
theorem foldl_write_wf {α : Type} (l : List α) (a : α → BitVec 16) (v : α → Byte) {m : List Host.Cell}
    (h : Memory.wf m) : Memory.wf (l.foldl (fun m i => Memory.write m (a i).toNat (v i)) m) := by
  induction l generalizing m with
  | nil => exact h
  | cons i l ih => exact ih (write_wf _ (a i).isLt h)

/-- The machine's storage writes keep the canonical form. -/
theorem memWriteAddress_wf {s : State} (v : Fin 5 → Byte) (h : Memory.wf s.nvm) :
    Memory.wf (memWriteAddress v s).nvm := foldl_write_wf addrIndices _ v h

/-- The machine's storage reads keep the canonical form. -/
theorem memReadAddress_wf {s : State} (h : Memory.wf s.nvm) : Memory.wf (memReadAddress s).nvm := h

/-- Storage is in canonical form after reset. -/
theorem reset_wf : Memory.wf State.reset.nvm := by decide

/-- A power cycle keeps storage, canonical form and all (R210). -/
theorem powerCycle_wf {s : State} (h : Memory.wf s.nvm) : Memory.wf (powerCycle s).nvm := h

end Sys2Proof.Machine
end

