-- ==== Sys2Proof/Laws/State.lean ====
section
/-! SUPPORT. One lemma per field of State per named update, so that no later proof unfolds a record update. -/

namespace Sys2Proof.Machine

/-! ### respond -/

@[simp] theorem respond_params (c : Code) (s : State) : (respond c s).params = s.params := rfl
@[simp] theorem respond_cfgLow (c : Code) (s : State) : (respond c s).cfgLow = s.cfgLow := rfl
@[simp] theorem respond_cfgHigh (c : Code) (s : State) : (respond c s).cfgHigh = s.cfgHigh := rfl
@[simp] theorem respond_cfgTrail (c : Code) (s : State) : (respond c s).cfgTrail = s.cfgTrail := rfl
@[simp] theorem respond_cfgGap (c : Code) (s : State) : (respond c s).cfgGap = s.cfgGap := rfl
@[simp] theorem respond_cfgGapmul (c : Code) (s : State) : (respond c s).cfgGapmul = s.cfgGapmul := rfl
@[simp] theorem respond_cfgRepeat (c : Code) (s : State) : (respond c s).cfgRepeat = s.cfgRepeat := rfl
@[simp] theorem respond_cfgInvert (c : Code) (s : State) : (respond c s).cfgInvert = s.cfgInvert := rfl
@[simp] theorem respond_cfgPeriod (c : Code) (s : State) : (respond c s).cfgPeriod = s.cfgPeriod := rfl
@[simp] theorem respond_cfgPin (c : Code) (s : State) : (respond c s).cfgPin = s.cfgPin := rfl
@[simp] theorem respond_configured (c : Code) (s : State) : (respond c s).configured = s.configured := rfl
@[simp] theorem respond_active (c : Code) (s : State) : (respond c s).active = s.active := rfl
@[simp] theorem respond_timerEn (c : Code) (s : State) : (respond c s).timerEn = s.timerEn := rfl
@[simp] theorem respond_buf (c : Code) (s : State) : (respond c s).buf = s.buf := rfl
@[simp] theorem respond_framing (c : Code) (s : State) : (respond c s).framing = s.framing := rfl
@[simp] theorem respond_toggle (c : Code) (s : State) : (respond c s).toggle = s.toggle := rfl
@[simp] theorem respond_repCnt (c : Code) (s : State) : (respond c s).repCnt = s.repCnt := rfl
@[simp] theorem respond_byteIdx (c : Code) (s : State) : (respond c s).byteIdx = s.byteIdx := rfl
@[simp] theorem respond_bitMask (c : Code) (s : State) : (respond c s).bitMask = s.bitMask := rfl
@[simp] theorem respond_gapRep (c : Code) (s : State) : (respond c s).gapRep = s.gapRep := rfl
@[simp] theorem respond_txOut (c : Code) (s : State) : (respond c s).txOut = s.txOut := rfl
@[simp] theorem respond_rsp (c : Code) (s : State) : (respond c s).rsp = some (responseWord c s) := rfl
@[simp] theorem respond_nvm (c : Code) (s : State) : (respond c s).nvm = s.nvm := rfl
@[simp] theorem respond_nvmLog (c : Code) (s : State) : (respond c s).nvmLog = s.nvmLog := rfl
@[simp] theorem respond_draws (c : Code) (s : State) : (respond c s).draws = s.draws := rfl
@[simp] theorem respond_inputs (c : Code) (s : State) : (respond c s).inputs = s.inputs := rfl

/-! ### driveOn -/

@[simp] theorem driveOn_params (s : State) : (driveOn s).params = s.params := rfl
@[simp] theorem driveOn_cfgLow (s : State) : (driveOn s).cfgLow = s.cfgLow := rfl
@[simp] theorem driveOn_cfgHigh (s : State) : (driveOn s).cfgHigh = s.cfgHigh := rfl
@[simp] theorem driveOn_cfgTrail (s : State) : (driveOn s).cfgTrail = s.cfgTrail := rfl
@[simp] theorem driveOn_cfgGap (s : State) : (driveOn s).cfgGap = s.cfgGap := rfl
@[simp] theorem driveOn_cfgGapmul (s : State) : (driveOn s).cfgGapmul = s.cfgGapmul := rfl
@[simp] theorem driveOn_cfgRepeat (s : State) : (driveOn s).cfgRepeat = s.cfgRepeat := rfl
@[simp] theorem driveOn_cfgInvert (s : State) : (driveOn s).cfgInvert = s.cfgInvert := rfl
@[simp] theorem driveOn_cfgPeriod (s : State) : (driveOn s).cfgPeriod = s.cfgPeriod := rfl
@[simp] theorem driveOn_cfgPin (s : State) : (driveOn s).cfgPin = s.cfgPin := rfl
@[simp] theorem driveOn_configured (s : State) : (driveOn s).configured = s.configured := rfl
@[simp] theorem driveOn_active (s : State) : (driveOn s).active = s.active := rfl
@[simp] theorem driveOn_timerEn (s : State) : (driveOn s).timerEn = s.timerEn := rfl
@[simp] theorem driveOn_buf (s : State) : (driveOn s).buf = s.buf := rfl
@[simp] theorem driveOn_framing (s : State) : (driveOn s).framing = s.framing := rfl
@[simp] theorem driveOn_toggle (s : State) : (driveOn s).toggle = s.toggle := rfl
@[simp] theorem driveOn_repCnt (s : State) : (driveOn s).repCnt = s.repCnt := rfl
@[simp] theorem driveOn_byteIdx (s : State) : (driveOn s).byteIdx = s.byteIdx := rfl
@[simp] theorem driveOn_bitMask (s : State) : (driveOn s).bitMask = s.bitMask := rfl
@[simp] theorem driveOn_gapRep (s : State) : (driveOn s).gapRep = s.gapRep := rfl
@[simp] theorem driveOn_txOut (s : State) : (driveOn s).txOut = onLevel s := rfl
@[simp] theorem driveOn_rsp (s : State) : (driveOn s).rsp = s.rsp := rfl
@[simp] theorem driveOn_nvm (s : State) : (driveOn s).nvm = s.nvm := rfl
@[simp] theorem driveOn_nvmLog (s : State) : (driveOn s).nvmLog = s.nvmLog := rfl
@[simp] theorem driveOn_draws (s : State) : (driveOn s).draws = s.draws := rfl
@[simp] theorem driveOn_inputs (s : State) : (driveOn s).inputs = s.inputs := rfl

/-! ### driveOff -/

@[simp] theorem driveOff_params (s : State) : (driveOff s).params = s.params := rfl
@[simp] theorem driveOff_cfgLow (s : State) : (driveOff s).cfgLow = s.cfgLow := rfl
@[simp] theorem driveOff_cfgHigh (s : State) : (driveOff s).cfgHigh = s.cfgHigh := rfl
@[simp] theorem driveOff_cfgTrail (s : State) : (driveOff s).cfgTrail = s.cfgTrail := rfl
@[simp] theorem driveOff_cfgGap (s : State) : (driveOff s).cfgGap = s.cfgGap := rfl
@[simp] theorem driveOff_cfgGapmul (s : State) : (driveOff s).cfgGapmul = s.cfgGapmul := rfl
@[simp] theorem driveOff_cfgRepeat (s : State) : (driveOff s).cfgRepeat = s.cfgRepeat := rfl
@[simp] theorem driveOff_cfgInvert (s : State) : (driveOff s).cfgInvert = s.cfgInvert := rfl
@[simp] theorem driveOff_cfgPeriod (s : State) : (driveOff s).cfgPeriod = s.cfgPeriod := rfl
@[simp] theorem driveOff_cfgPin (s : State) : (driveOff s).cfgPin = s.cfgPin := rfl
@[simp] theorem driveOff_configured (s : State) : (driveOff s).configured = s.configured := rfl
@[simp] theorem driveOff_active (s : State) : (driveOff s).active = s.active := rfl
@[simp] theorem driveOff_timerEn (s : State) : (driveOff s).timerEn = s.timerEn := rfl
@[simp] theorem driveOff_buf (s : State) : (driveOff s).buf = s.buf := rfl
@[simp] theorem driveOff_framing (s : State) : (driveOff s).framing = s.framing := rfl
@[simp] theorem driveOff_toggle (s : State) : (driveOff s).toggle = s.toggle := rfl
@[simp] theorem driveOff_repCnt (s : State) : (driveOff s).repCnt = s.repCnt := rfl
@[simp] theorem driveOff_byteIdx (s : State) : (driveOff s).byteIdx = s.byteIdx := rfl
@[simp] theorem driveOff_bitMask (s : State) : (driveOff s).bitMask = s.bitMask := rfl
@[simp] theorem driveOff_gapRep (s : State) : (driveOff s).gapRep = s.gapRep := rfl
@[simp] theorem driveOff_txOut (s : State) : (driveOff s).txOut = offLevel s := rfl
@[simp] theorem driveOff_rsp (s : State) : (driveOff s).rsp = s.rsp := rfl
@[simp] theorem driveOff_nvm (s : State) : (driveOff s).nvm = s.nvm := rfl
@[simp] theorem driveOff_nvmLog (s : State) : (driveOff s).nvmLog = s.nvmLog := rfl
@[simp] theorem driveOff_draws (s : State) : (driveOff s).draws = s.draws := rfl
@[simp] theorem driveOff_inputs (s : State) : (driveOff s).inputs = s.inputs := rfl

/-! ### timerStart -/

@[simp] theorem timerStart_params (s : State) : (timerStart s).params = s.params := rfl
@[simp] theorem timerStart_cfgLow (s : State) : (timerStart s).cfgLow = s.cfgLow := rfl
@[simp] theorem timerStart_cfgHigh (s : State) : (timerStart s).cfgHigh = s.cfgHigh := rfl
@[simp] theorem timerStart_cfgTrail (s : State) : (timerStart s).cfgTrail = s.cfgTrail := rfl
@[simp] theorem timerStart_cfgGap (s : State) : (timerStart s).cfgGap = s.cfgGap := rfl
@[simp] theorem timerStart_cfgGapmul (s : State) : (timerStart s).cfgGapmul = s.cfgGapmul := rfl
@[simp] theorem timerStart_cfgRepeat (s : State) : (timerStart s).cfgRepeat = s.cfgRepeat := rfl
@[simp] theorem timerStart_cfgInvert (s : State) : (timerStart s).cfgInvert = s.cfgInvert := rfl
@[simp] theorem timerStart_cfgPeriod (s : State) : (timerStart s).cfgPeriod = s.cfgPeriod := rfl
@[simp] theorem timerStart_cfgPin (s : State) : (timerStart s).cfgPin = s.cfgPin := rfl
@[simp] theorem timerStart_configured (s : State) : (timerStart s).configured = s.configured := rfl
@[simp] theorem timerStart_active (s : State) : (timerStart s).active = s.active := rfl
@[simp] theorem timerStart_timerEn (s : State) : (timerStart s).timerEn = true := rfl
@[simp] theorem timerStart_buf (s : State) : (timerStart s).buf = s.buf := rfl
@[simp] theorem timerStart_framing (s : State) : (timerStart s).framing = s.framing := rfl
@[simp] theorem timerStart_toggle (s : State) : (timerStart s).toggle = s.toggle := rfl
@[simp] theorem timerStart_repCnt (s : State) : (timerStart s).repCnt = s.repCnt := rfl
@[simp] theorem timerStart_byteIdx (s : State) : (timerStart s).byteIdx = s.byteIdx := rfl
@[simp] theorem timerStart_bitMask (s : State) : (timerStart s).bitMask = s.bitMask := rfl
@[simp] theorem timerStart_gapRep (s : State) : (timerStart s).gapRep = s.gapRep := rfl
@[simp] theorem timerStart_txOut (s : State) : (timerStart s).txOut = s.txOut := rfl
@[simp] theorem timerStart_rsp (s : State) : (timerStart s).rsp = s.rsp := rfl
@[simp] theorem timerStart_nvm (s : State) : (timerStart s).nvm = s.nvm := rfl
@[simp] theorem timerStart_nvmLog (s : State) : (timerStart s).nvmLog = s.nvmLog := rfl
@[simp] theorem timerStart_draws (s : State) : (timerStart s).draws = s.draws := rfl
@[simp] theorem timerStart_inputs (s : State) : (timerStart s).inputs = s.inputs := rfl

/-! ### timerStop -/

@[simp] theorem timerStop_params (s : State) : (timerStop s).params = s.params := rfl
@[simp] theorem timerStop_cfgLow (s : State) : (timerStop s).cfgLow = s.cfgLow := rfl
@[simp] theorem timerStop_cfgHigh (s : State) : (timerStop s).cfgHigh = s.cfgHigh := rfl
@[simp] theorem timerStop_cfgTrail (s : State) : (timerStop s).cfgTrail = s.cfgTrail := rfl
@[simp] theorem timerStop_cfgGap (s : State) : (timerStop s).cfgGap = s.cfgGap := rfl
@[simp] theorem timerStop_cfgGapmul (s : State) : (timerStop s).cfgGapmul = s.cfgGapmul := rfl
@[simp] theorem timerStop_cfgRepeat (s : State) : (timerStop s).cfgRepeat = s.cfgRepeat := rfl
@[simp] theorem timerStop_cfgInvert (s : State) : (timerStop s).cfgInvert = s.cfgInvert := rfl
@[simp] theorem timerStop_cfgPeriod (s : State) : (timerStop s).cfgPeriod = s.cfgPeriod := rfl
@[simp] theorem timerStop_cfgPin (s : State) : (timerStop s).cfgPin = s.cfgPin := rfl
@[simp] theorem timerStop_configured (s : State) : (timerStop s).configured = s.configured := rfl
@[simp] theorem timerStop_active (s : State) : (timerStop s).active = s.active := rfl
@[simp] theorem timerStop_timerEn (s : State) : (timerStop s).timerEn = false := rfl
@[simp] theorem timerStop_buf (s : State) : (timerStop s).buf = s.buf := rfl
@[simp] theorem timerStop_framing (s : State) : (timerStop s).framing = s.framing := rfl
@[simp] theorem timerStop_toggle (s : State) : (timerStop s).toggle = s.toggle := rfl
@[simp] theorem timerStop_repCnt (s : State) : (timerStop s).repCnt = s.repCnt := rfl
@[simp] theorem timerStop_byteIdx (s : State) : (timerStop s).byteIdx = s.byteIdx := rfl
@[simp] theorem timerStop_bitMask (s : State) : (timerStop s).bitMask = s.bitMask := rfl
@[simp] theorem timerStop_gapRep (s : State) : (timerStop s).gapRep = s.gapRep := rfl
@[simp] theorem timerStop_txOut (s : State) : (timerStop s).txOut = s.txOut := rfl
@[simp] theorem timerStop_rsp (s : State) : (timerStop s).rsp = s.rsp := rfl
@[simp] theorem timerStop_nvm (s : State) : (timerStop s).nvm = s.nvm := rfl
@[simp] theorem timerStop_nvmLog (s : State) : (timerStop s).nvmLog = s.nvmLog := rfl
@[simp] theorem timerStop_draws (s : State) : (timerStop s).draws = s.draws := rfl
@[simp] theorem timerStop_inputs (s : State) : (timerStop s).inputs = s.inputs := rfl

/-! ### memWriteAddress -/

@[simp] theorem memWriteAddress_params (v : Fin 5 → Byte) (s : State) : (memWriteAddress v s).params = s.params := rfl
@[simp] theorem memWriteAddress_cfgLow (v : Fin 5 → Byte) (s : State) : (memWriteAddress v s).cfgLow = s.cfgLow := rfl
@[simp] theorem memWriteAddress_cfgHigh (v : Fin 5 → Byte) (s : State) : (memWriteAddress v s).cfgHigh = s.cfgHigh := rfl
@[simp] theorem memWriteAddress_cfgTrail (v : Fin 5 → Byte) (s : State) : (memWriteAddress v s).cfgTrail = s.cfgTrail := rfl
@[simp] theorem memWriteAddress_cfgGap (v : Fin 5 → Byte) (s : State) : (memWriteAddress v s).cfgGap = s.cfgGap := rfl
@[simp] theorem memWriteAddress_cfgGapmul (v : Fin 5 → Byte) (s : State) : (memWriteAddress v s).cfgGapmul = s.cfgGapmul := rfl
@[simp] theorem memWriteAddress_cfgRepeat (v : Fin 5 → Byte) (s : State) : (memWriteAddress v s).cfgRepeat = s.cfgRepeat := rfl
@[simp] theorem memWriteAddress_cfgInvert (v : Fin 5 → Byte) (s : State) : (memWriteAddress v s).cfgInvert = s.cfgInvert := rfl
@[simp] theorem memWriteAddress_cfgPeriod (v : Fin 5 → Byte) (s : State) : (memWriteAddress v s).cfgPeriod = s.cfgPeriod := rfl
@[simp] theorem memWriteAddress_cfgPin (v : Fin 5 → Byte) (s : State) : (memWriteAddress v s).cfgPin = s.cfgPin := rfl
@[simp] theorem memWriteAddress_configured (v : Fin 5 → Byte) (s : State) : (memWriteAddress v s).configured = s.configured := rfl
@[simp] theorem memWriteAddress_active (v : Fin 5 → Byte) (s : State) : (memWriteAddress v s).active = s.active := rfl
@[simp] theorem memWriteAddress_timerEn (v : Fin 5 → Byte) (s : State) : (memWriteAddress v s).timerEn = s.timerEn := rfl
@[simp] theorem memWriteAddress_buf (v : Fin 5 → Byte) (s : State) : (memWriteAddress v s).buf = s.buf := rfl
@[simp] theorem memWriteAddress_framing (v : Fin 5 → Byte) (s : State) : (memWriteAddress v s).framing = s.framing := rfl
@[simp] theorem memWriteAddress_toggle (v : Fin 5 → Byte) (s : State) : (memWriteAddress v s).toggle = s.toggle := rfl
@[simp] theorem memWriteAddress_repCnt (v : Fin 5 → Byte) (s : State) : (memWriteAddress v s).repCnt = s.repCnt := rfl
@[simp] theorem memWriteAddress_byteIdx (v : Fin 5 → Byte) (s : State) : (memWriteAddress v s).byteIdx = s.byteIdx := rfl
@[simp] theorem memWriteAddress_bitMask (v : Fin 5 → Byte) (s : State) : (memWriteAddress v s).bitMask = s.bitMask := rfl
@[simp] theorem memWriteAddress_gapRep (v : Fin 5 → Byte) (s : State) : (memWriteAddress v s).gapRep = s.gapRep := rfl
@[simp] theorem memWriteAddress_txOut (v : Fin 5 → Byte) (s : State) : (memWriteAddress v s).txOut = s.txOut := rfl
@[simp] theorem memWriteAddress_rsp (v : Fin 5 → Byte) (s : State) : (memWriteAddress v s).rsp = s.rsp := rfl
@[simp] theorem memWriteAddress_nvm (v : Fin 5 → Byte) (s : State) : (memWriteAddress v s).nvm = addrIndices.foldl (fun m i => Memory.write m (nvAddr s.params i).toNat (v i)) s.nvm := rfl
@[simp] theorem memWriteAddress_nvmLog (v : Fin 5 → Byte) (s : State) : (memWriteAddress v s).nvmLog = s.nvmLog ++ addrIndices.map (fun i => .write (nvAddr s.params i) (v i)) := rfl
@[simp] theorem memWriteAddress_draws (v : Fin 5 → Byte) (s : State) : (memWriteAddress v s).draws = s.draws := rfl
@[simp] theorem memWriteAddress_inputs (v : Fin 5 → Byte) (s : State) : (memWriteAddress v s).inputs = s.inputs := rfl

/-! ### memReadAddress -/

@[simp] theorem memReadAddress_params (s : State) : (memReadAddress s).params = s.params := rfl
@[simp] theorem memReadAddress_cfgLow (s : State) : (memReadAddress s).cfgLow = s.cfgLow := rfl
@[simp] theorem memReadAddress_cfgHigh (s : State) : (memReadAddress s).cfgHigh = s.cfgHigh := rfl
@[simp] theorem memReadAddress_cfgTrail (s : State) : (memReadAddress s).cfgTrail = s.cfgTrail := rfl
@[simp] theorem memReadAddress_cfgGap (s : State) : (memReadAddress s).cfgGap = s.cfgGap := rfl
@[simp] theorem memReadAddress_cfgGapmul (s : State) : (memReadAddress s).cfgGapmul = s.cfgGapmul := rfl
@[simp] theorem memReadAddress_cfgRepeat (s : State) : (memReadAddress s).cfgRepeat = s.cfgRepeat := rfl
@[simp] theorem memReadAddress_cfgInvert (s : State) : (memReadAddress s).cfgInvert = s.cfgInvert := rfl
@[simp] theorem memReadAddress_cfgPeriod (s : State) : (memReadAddress s).cfgPeriod = s.cfgPeriod := rfl
@[simp] theorem memReadAddress_cfgPin (s : State) : (memReadAddress s).cfgPin = s.cfgPin := rfl
@[simp] theorem memReadAddress_configured (s : State) : (memReadAddress s).configured = s.configured := rfl
@[simp] theorem memReadAddress_active (s : State) : (memReadAddress s).active = s.active := rfl
@[simp] theorem memReadAddress_timerEn (s : State) : (memReadAddress s).timerEn = s.timerEn := rfl
@[simp] theorem memReadAddress_buf (s : State) : (memReadAddress s).buf = s.buf := rfl
@[simp] theorem memReadAddress_framing (s : State) : (memReadAddress s).framing = s.framing := rfl
@[simp] theorem memReadAddress_toggle (s : State) : (memReadAddress s).toggle = s.toggle := rfl
@[simp] theorem memReadAddress_repCnt (s : State) : (memReadAddress s).repCnt = s.repCnt := rfl
@[simp] theorem memReadAddress_byteIdx (s : State) : (memReadAddress s).byteIdx = s.byteIdx := rfl
@[simp] theorem memReadAddress_bitMask (s : State) : (memReadAddress s).bitMask = s.bitMask := rfl
@[simp] theorem memReadAddress_gapRep (s : State) : (memReadAddress s).gapRep = s.gapRep := rfl
@[simp] theorem memReadAddress_txOut (s : State) : (memReadAddress s).txOut = s.txOut := rfl
@[simp] theorem memReadAddress_rsp (s : State) : (memReadAddress s).rsp = s.rsp := rfl
@[simp] theorem memReadAddress_nvm (s : State) : (memReadAddress s).nvm = s.nvm := rfl
@[simp] theorem memReadAddress_nvmLog (s : State) : (memReadAddress s).nvmLog = s.nvmLog ++ addrIndices.map (fun i => .read (nvAddr s.params i) (drawnByte s i)) := rfl
@[simp] theorem memReadAddress_draws (s : State) : (memReadAddress s).draws = s.draws + 5 := rfl
@[simp] theorem memReadAddress_inputs (s : State) : (memReadAddress s).inputs = s.inputs := rfl

/-! ### armed -/

@[simp] theorem armed_params (s : State) : (armed s).params = s.params := rfl
@[simp] theorem armed_cfgLow (s : State) : (armed s).cfgLow = s.cfgLow := rfl
@[simp] theorem armed_cfgHigh (s : State) : (armed s).cfgHigh = s.cfgHigh := rfl
@[simp] theorem armed_cfgTrail (s : State) : (armed s).cfgTrail = s.cfgTrail := rfl
@[simp] theorem armed_cfgGap (s : State) : (armed s).cfgGap = s.cfgGap := rfl
@[simp] theorem armed_cfgGapmul (s : State) : (armed s).cfgGapmul = s.cfgGapmul := rfl
@[simp] theorem armed_cfgRepeat (s : State) : (armed s).cfgRepeat = s.cfgRepeat := rfl
@[simp] theorem armed_cfgInvert (s : State) : (armed s).cfgInvert = s.cfgInvert := rfl
@[simp] theorem armed_cfgPeriod (s : State) : (armed s).cfgPeriod = s.cfgPeriod := rfl
@[simp] theorem armed_cfgPin (s : State) : (armed s).cfgPin = s.cfgPin := rfl
@[simp] theorem armed_configured (s : State) : (armed s).configured = s.configured := rfl
@[simp] theorem armed_active (s : State) : (armed s).active = true := rfl
@[simp] theorem armed_timerEn (s : State) : (armed s).timerEn = true := rfl
@[simp] theorem armed_buf (s : State) : (armed s).buf = s.buf := rfl
@[simp] theorem armed_framing (s : State) : (armed s).framing = .idle := rfl
@[simp] theorem armed_toggle (s : State) : (armed s).toggle = s.cfgHigh := rfl
@[simp] theorem armed_repCnt (s : State) : (armed s).repCnt = 0 := rfl
@[simp] theorem armed_byteIdx (s : State) : (armed s).byteIdx = 0 := rfl
@[simp] theorem armed_bitMask (s : State) : (armed s).bitMask = 0x80 := rfl
@[simp] theorem armed_gapRep (s : State) : (armed s).gapRep = 0 := rfl
@[simp] theorem armed_txOut (s : State) : (armed s).txOut = s.txOut := rfl
@[simp] theorem armed_rsp (s : State) : (armed s).rsp = s.rsp := rfl
@[simp] theorem armed_nvm (s : State) : (armed s).nvm = s.nvm := rfl
@[simp] theorem armed_nvmLog (s : State) : (armed s).nvmLog = s.nvmLog := rfl
@[simp] theorem armed_draws (s : State) : (armed s).draws = s.draws := rfl
@[simp] theorem armed_inputs (s : State) : (armed s).inputs = s.inputs := rfl

/-! ### decToggle -/

@[simp] theorem decToggle_params (s : State) : (decToggle s).params = s.params := rfl
@[simp] theorem decToggle_cfgLow (s : State) : (decToggle s).cfgLow = s.cfgLow := rfl
@[simp] theorem decToggle_cfgHigh (s : State) : (decToggle s).cfgHigh = s.cfgHigh := rfl
@[simp] theorem decToggle_cfgTrail (s : State) : (decToggle s).cfgTrail = s.cfgTrail := rfl
@[simp] theorem decToggle_cfgGap (s : State) : (decToggle s).cfgGap = s.cfgGap := rfl
@[simp] theorem decToggle_cfgGapmul (s : State) : (decToggle s).cfgGapmul = s.cfgGapmul := rfl
@[simp] theorem decToggle_cfgRepeat (s : State) : (decToggle s).cfgRepeat = s.cfgRepeat := rfl
@[simp] theorem decToggle_cfgInvert (s : State) : (decToggle s).cfgInvert = s.cfgInvert := rfl
@[simp] theorem decToggle_cfgPeriod (s : State) : (decToggle s).cfgPeriod = s.cfgPeriod := rfl
@[simp] theorem decToggle_cfgPin (s : State) : (decToggle s).cfgPin = s.cfgPin := rfl
@[simp] theorem decToggle_configured (s : State) : (decToggle s).configured = s.configured := rfl
@[simp] theorem decToggle_active (s : State) : (decToggle s).active = s.active := rfl
@[simp] theorem decToggle_timerEn (s : State) : (decToggle s).timerEn = s.timerEn := rfl
@[simp] theorem decToggle_buf (s : State) : (decToggle s).buf = s.buf := rfl
@[simp] theorem decToggle_framing (s : State) : (decToggle s).framing = s.framing := rfl
@[simp] theorem decToggle_toggle (s : State) : (decToggle s).toggle = s.toggle - 1 := rfl
@[simp] theorem decToggle_repCnt (s : State) : (decToggle s).repCnt = s.repCnt := rfl
@[simp] theorem decToggle_byteIdx (s : State) : (decToggle s).byteIdx = s.byteIdx := rfl
@[simp] theorem decToggle_bitMask (s : State) : (decToggle s).bitMask = s.bitMask := rfl
@[simp] theorem decToggle_gapRep (s : State) : (decToggle s).gapRep = s.gapRep := rfl
@[simp] theorem decToggle_txOut (s : State) : (decToggle s).txOut = s.txOut := rfl
@[simp] theorem decToggle_rsp (s : State) : (decToggle s).rsp = s.rsp := rfl
@[simp] theorem decToggle_nvm (s : State) : (decToggle s).nvm = s.nvm := rfl
@[simp] theorem decToggle_nvmLog (s : State) : (decToggle s).nvmLog = s.nvmLog := rfl
@[simp] theorem decToggle_draws (s : State) : (decToggle s).draws = s.draws := rfl
@[simp] theorem decToggle_inputs (s : State) : (decToggle s).inputs = s.inputs := rfl

end Sys2Proof.Machine
end

