-- ==== Sys2Proof/Laws/Ops.lean ====
section
/-! SUPPORT. One lemma per shared operation of the commands, saying everything it can do. -/

namespace Sys2Proof.Machine

/-! ### Guards and the arm -/

theorem unlessBusy_active {s : State} {body : State → Host.Outcome State Fault Refusal} (h : s.active = true) :
    unlessBusy s body = .next (respond .busy s) := by simp [unlessBusy, h]

theorem unlessBusy_idle {s : State} {body : State → Host.Outcome State Fault Refusal} (h : s.active = false) :
    unlessBusy s body = body s := by simp [unlessBusy, h]

/-- A guarded command either answers BUSY or runs in an idle state. -/
theorem unlessBusy_cases (s : State) (body : State → Host.Outcome State Fault Refusal) :
    (s.active = true ∧ unlessBusy s body = .next (respond .busy s)) ∨
    (s.active = false ∧ unlessBusy s body = body s) := by
  cases h : s.active
  · exact .inr ⟨rfl, unlessBusy_idle h⟩
  · exact .inl ⟨rfl, unlessBusy_active h⟩

theorem ifConfigured_true {s : State} {body : State → Host.Outcome State Fault Refusal} (h : s.configured = true) :
    ifConfigured s body = body s := by simp [ifConfigured, h]

theorem ifConfigured_false {s : State} {body : State → Host.Outcome State Fault Refusal} (h : s.configured = false) :
    ifConfigured s body = .next (respond .unconfigured s) := by simp [ifConfigured, h]

/-- The arm starts the transmission of a written frame and stops the model on an unwritten one. -/
theorem armAndRespond_cases (s : State) :
    (frameWritten s = true ∧ armAndRespond s = .next (respond .ok (armed s))) ∨
    (frameWritten s = false ∧ armAndRespond s = .fault .unwrittenBuf) := by
  cases h : frameWritten s
  · exact .inr ⟨rfl, by simp [armAndRespond, h]⟩
  · exact .inl ⟨rfl, by simp [armAndRespond, h]⟩

/-- The response word depends on the code and on `ACTIVE` alone (R76). -/
theorem responseWord_congr {s t : State} (c : Code) (h : s.active = t.active) : responseWord c s = responseWord c t := by
  simp [responseWord, ready, h]

/-- The eight response words (R76). -/
theorem responseWord_eq (c : Code) (s : State) :
    responseWord c s =
      match c, s.active with
      | .ok, false => 0x04
      | .ok, true => 0x00
      | .busy, false => 0x05
      | .busy, true => 0x01
      | .illegal, false => 0x06
      | .illegal, true => 0x02
      | .unconfigured, false => 0x07
      | .unconfigured, true => 0x03 := by
  cases h : s.active <;> cases c <;> simp [responseWord, ready, codeBits, h]

/-! ### The frame buffer -/

/-- A byte placed in the frame, and the bytes it leaves alone (R35). -/
theorem putByte_get (i : Fin 10) (v : Byte) (f : Vector BufByte 10) (j : Fin 10) :
    (putByte i v f)[j] = if j = i then ⟨v, true⟩ else f[j] := by
  simp only [putByte, Fin.getElem_fin, Vector.getElem_set, Fin.ext_iff, eq_comm]

/-- The five address bytes in the frame, and the bytes they leave alone (R51). -/
theorem putAddress_get (v : Fin 5 → Byte) (f : Vector BufByte 10) (j : Fin 10) :
    (putAddress v f)[j] =
      if h : 4 ≤ j.val ∧ j.val ≤ 8 then ⟨v ⟨j.val - 4, by omega⟩, true⟩ else f[j] := by
  simp only [putAddress, addrIndices, List.foldl_cons, List.foldl_nil, putByte_get]
  fin_cases j <;> simp [addrPos]

/-- Two frames with the same bytes are the same. -/
theorem frame_ext {f g : Vector BufByte 10} (h : ∀ j : Fin 10, f[j] = g[j]) : f = g :=
  Vector.ext fun i hi => h ⟨i, hi⟩

/-- The frame with an address placed, byte by byte (R51). -/
theorem putAddress_literal (v : Fin 5 → Byte) (f : Vector BufByte 10) :
    putAddress v f =
      #v[f[0], f[1], f[2], f[3], ⟨v 0, true⟩, ⟨v 1, true⟩, ⟨v 2, true⟩, ⟨v 3, true⟩, ⟨v 4, true⟩, f[9]] := by
  refine frame_ext fun j => ?_
  rw [putAddress_get]
  fin_cases j <;> rfl

/-- A frame is written when each of its ten bytes is (R121). -/
theorem frameWritten_iff (s : State) : frameWritten s = true ↔ ∀ j : Fin 10, s.buf[j].written = true := by
  simp only [frameWritten, List.all_eq_true, Vector.mem_toList_iff]
  refine ⟨fun h j => h _ (by simp), fun h b hb => ?_⟩
  obtain ⟨i, hi, rfl⟩ := Vector.getElem_of_mem hb
  exact h ⟨i, hi⟩

/-- SEND_RAW's building places every byte (R123). -/
theorem buildRaw_get (b : Vector Byte 10) (s : State) (j : Fin 10) :
    (buildRaw b s).buf[j] = ⟨translateRaw s.params b[j], true⟩ := by
  simp only [buildRaw, framePositions, List.foldl_cons, List.foldl_nil, putByte_get]
  fin_cases j <;> simp

/-- SEND_RAW's frame, byte by byte (R123). -/
theorem buildRaw_literal (b : Vector Byte 10) (s : State) :
    buildRaw b s =
      { s with
        buf := #v[⟨translateRaw s.params b[0], true⟩, ⟨translateRaw s.params b[1], true⟩,
          ⟨translateRaw s.params b[2], true⟩, ⟨translateRaw s.params b[3], true⟩, ⟨translateRaw s.params b[4], true⟩,
          ⟨translateRaw s.params b[5], true⟩, ⟨translateRaw s.params b[6], true⟩, ⟨translateRaw s.params b[7], true⟩,
          ⟨translateRaw s.params b[8], true⟩, ⟨translateRaw s.params b[9], true⟩] } := by
  refine congrArg (fun f => { s with buf := f }) (frame_ext fun j => ?_)
  exact (buildRaw_get b s j).trans (by fin_cases j <;> rfl)

/-- SEND_RAW's building leaves no byte unwritten (R123). -/
theorem buildRaw_frameWritten (b : Vector Byte 10) (s : State) : frameWritten (buildRaw b s) = true :=
  (frameWritten_iff _).2 fun j => by rw [buildRaw_get]

/-- SEND_CMD's building writes positions 0..3 and 9 and keeps the address (R115, R125). -/
theorem buildFields_get (command parameter room device : Byte) (s : State) (j : Fin 10) :
    (buildFields command parameter room device s).buf[j] =
      match j with
      | 0 => ⟨encodeNibble s.params (highNibble parameter), true⟩
      | 1 => ⟨encodeNibble s.params (lowNibble parameter), true⟩
      | 2 => ⟨encodeNibble s.params device, true⟩
      | 3 => ⟨encodeNibble s.params command, true⟩
      | 9 => ⟨encodeNibble s.params room, true⟩
      | _ => s.buf[j] := by
  simp only [buildFields, putByte_get]
  fin_cases j <;> simp

/-- SEND_CMD's frame, byte by byte (R125). -/
theorem buildFields_literal (command parameter room device : Byte) (s : State) :
    buildFields command parameter room device s =
      { s with
        buf := #v[⟨encodeNibble s.params (highNibble parameter), true⟩, ⟨encodeNibble s.params (lowNibble parameter), true⟩,
          ⟨encodeNibble s.params device, true⟩, ⟨encodeNibble s.params command, true⟩, s.buf[4], s.buf[5], s.buf[6],
          s.buf[7], s.buf[8], ⟨encodeNibble s.params room, true⟩] } := by
  refine congrArg (fun f => { s with buf := f }) (frame_ext fun j => ?_)
  exact (buildFields_get command parameter room device s j).trans (by fin_cases j <;> rfl)

/-! ### SETUP's restore and SET_ADDR's persistence -/

/-- The five storage addresses differ, also where they wrap past `2^16` (R53). -/
theorem nvAddr_injective (p : Params) {i j : Fin 5} (h : (nvAddr p i).toNat = (nvAddr p j).toNat) : i = j := by
  have h := BitVec.eq_of_toNat_eq h
  simp only [nvAddr] at h
  ext
  bv_omega

/-- SETUP's restore touches the frame, the access log and the draws, and only with storage present (R54, R108). -/
theorem restoreAddress_eq (s : State) :
    restoreAddress s =
      { s with
        buf := if s.params.nvmPresent then putAddress (drawnByte s) s.buf else s.buf
        nvmLog := (restoreAddress s).nvmLog
        draws := if s.params.nvmPresent then s.draws + 5 else s.draws } := by
  cases h : s.params.nvmPresent <;> simp [restoreAddress, memReadAddress, h]

/-- SET_ADDR's persistence touches storage and the access log, and only when it is enabled (R54, R119). -/
theorem persistAddress_eq (s : State) :
    persistAddress s = { s with nvm := (persistAddress s).nvm, nvmLog := (persistAddress s).nvmLog } := by
  cases h : s.params.nvmPersist <;> simp [persistAddress, memWriteAddress, h]

/-- SET_ADDR's persistence keeps storage in canonical form. -/
theorem persistAddress_wf {s : State} (h : Memory.wf s.nvm) : Memory.wf (persistAddress s).nvm := by
  unfold persistAddress
  split
  · exact memWriteAddress_wf _ h
  · exact h

end Sys2Proof.Machine
end

