-- ==== Sys2Proof/Laws/PerInstr.lean ====
section
/-! SUPPORT. Fields of a command word, and the family Canonical: the word of every command spells a command and has its
reserved bits 0 (spec/30_encoding.md R78, R79), one lemma per constructor. -/

namespace Sys2Proof

/-- The bits of a placed field. -/
theorem place_getLsbD {n : Nat} (lo : Nat) (v : BitVec n) (k : Nat) :
    (place lo v).getLsbD k = (decide (k < 128) && (decide (lo ≤ k) && v.getLsbD (k - lo))) := by
  simp only [place, BitVec.getLsbD_shiftLeft, BitVec.getLsbD_setWidth]
  by_cases h : k < 128
  · by_cases h' : lo ≤ k
    · have : ¬ k < lo := by omega
      have : k - lo < 128 := by omega
      simp [*]
    · have : k < lo := by omega
      simp [*]
  · simp [h]

/-- A field above the low byte leaves the low byte alone. -/
theorem lowByte_or_place {n : Nat} (w : Cmd) (lo : Nat) (v : BitVec n) (h : 8 ≤ lo) :
    (w ||| place lo v).toNat % 256 = w.toNat % 256 := by
  have key : (w ||| place lo v).setWidth 8 = w.setWidth 8 := by
    apply BitVec.eq_of_getLsbD_eq
    intro k hk
    have : ¬ lo ≤ k := by omega
    simp [BitVec.getLsbD_setWidth, place_getLsbD, this]
  simpa only [BitVec.toNat_setWidth] using congrArg BitVec.toNat key

/-- The word's low byte is `op` and every bit of it lies in the mask. -/
abbrev Within (m : Cmd) (op : Nat) (w : Cmd) : Prop := w.toNat % 256 = op ∧ w &&& m = w

/-- A field whose bits the mask has keeps a word within it. -/
theorem within_place {n : Nat} {m w : Cmd} {op lo : Nat} {v : BitVec n} (hw : Within m op w) (hlo : 8 ≤ lo)
    (hm : m.extractLsb' lo n = BitVec.allOnes n) : Within m op (w ||| place lo v) := by
  refine ⟨by rw [lowByte_or_place _ _ _ hlo, hw.1], BitVec.eq_of_getLsbD_eq fun k hk => ?_⟩
  have hwk := congrArg (fun x => x.getLsbD k) hw.2
  simp only [BitVec.getLsbD_and] at hwk
  simp only [BitVec.getLsbD_and, BitVec.getLsbD_or, place_getLsbD, hk, decide_true, Bool.true_and]
  by_cases h1 : lo ≤ k
  · by_cases h2 : k - lo < n
    · have := congrArg (fun x => x.getLsbD (k - lo)) hm
      simp only [BitVec.getLsbD_extractLsb', BitVec.getLsbD_allOnes, h2, decide_true, Bool.true_and,
        Nat.add_sub_cancel' h1] at this
      simp [this]
    · simp [BitVec.getLsbD_of_ge v (k - lo) (by omega), hwk]
  · simp [h1, hwk]

/-- A word within the used bits of its opcode is canonical. -/
theorem canonical_of_within {w : Cmd} {op : Nat} (hop : 1 ≤ op ∧ op ≤ 7) (h : Within (usedBits op) op w) :
    canonicalWord w = true := by
  have h16 : w.toNat % 16 = op := by have := h.1; omega
  simp only [canonicalWord, legalWord, clearReserved, h.1, h16, h.2, hop, and_self, decide_true, beq_self_eq_true,
    Bool.and_self]

end Sys2Proof

namespace Sys2Proof.Laws.Canonical

/-- The encoder's word for `i` is legal and canonical. -/
def Statement (i : Instr) : Prop := canonicalWord (encode i) = true

theorem setup (pin rep : BitVec 8) (invert : Bool) (period : BitVec 32) :
    Statement (.setup pin rep invert period) :=
  canonical_of_within (op := 1) (by decide) <|
    within_place (within_place (within_place (within_place (by decide)
      (by decide) (by decide)) (by decide) (by decide)) (by decide) (by decide)) (by decide) (by decide)

theorem cfgTiming (low high trail gap : BitVec 8) : Statement (.cfgTiming low high trail gap) :=
  canonical_of_within (op := 2) (by decide) <|
    within_place (within_place (within_place (within_place (by decide)
      (by decide) (by decide)) (by decide) (by decide)) (by decide) (by decide)) (by decide) (by decide)

theorem cfgGapmul (n : BitVec 16) : Statement (.cfgGapmul n) :=
  canonical_of_within (op := 3) (by decide) <| within_place (by decide) (by decide) (by decide)

theorem setAddr (a : Vector Byte 5) : Statement (.setAddr a) :=
  canonical_of_within (op := 4) (by decide) <|
    within_place (within_place (within_place (within_place (within_place (by decide)
      (by decide) (by decide)) (by decide) (by decide)) (by decide) (by decide)) (by decide) (by decide))
      (by decide) (by decide)

theorem sendRaw (b : Vector Byte 10) : Statement (.sendRaw b) :=
  canonical_of_within (op := 5) (by decide) <|
    within_place (within_place (within_place (within_place (within_place (within_place (within_place
      (within_place (within_place (within_place (by decide)
      (by decide) (by decide)) (by decide) (by decide)) (by decide) (by decide)) (by decide) (by decide))
      (by decide) (by decide)) (by decide) (by decide)) (by decide) (by decide)) (by decide) (by decide))
      (by decide) (by decide)) (by decide) (by decide)

theorem sendCmd (command parameter room device : Byte) : Statement (.sendCmd command parameter room device) :=
  canonical_of_within (op := 6) (by decide) <|
    within_place (within_place (within_place (within_place (by decide)
      (by decide) (by decide)) (by decide) (by decide)) (by decide) (by decide)) (by decide) (by decide)

theorem isReady : Statement .isReady := canonical_of_within (op := 7) (by decide) (by decide)

end Sys2Proof.Laws.Canonical
end

