-- ==== Sys2Proof/Laws/Sequencer.lean ====
section
/-! SUPPORT. What a tick step can do, said once (spec/42_tick_sequencer.md R141-R151). -/

namespace Sys2Proof.Machine

/-- The trailing event changes the pin and nothing else (R142). -/
theorem trailingEvent_eq (s : State) :
    trailingEvent s = { s with txOut := if s.toggle = s.cfgTrail then offLevel s else s.txOut } := by
  unfold trailingEvent
  split <;> rfl

/-- The bit step shifts the mask and moves on after a byte's last bit; it touches nothing else (R148). -/
theorem advanceBit_eq (s : State) :
    advanceBit s =
      { s with
        bitMask := s.bitMask >>> 1
        byteIdx := if s.bitMask >>> 1 = 0 then s.byteIdx + 1 else s.byteIdx
        framing :=
          if s.bitMask >>> 1 = 0 then (if 10 ≤ (s.byteIdx + 1).toNat then .msgEnd else .byteStart) else s.framing } := by
  unfold advanceBit nextByte
  by_cases h : s.bitMask >>> 1 = 0
  · simp only [h, if_true]
  · simp only [h, if_false]

/-- A tick step that is no zero event only decrements the counter and takes the trailing event (R141). -/
theorem tickStep_quiet {s : State} (hf : s.framing ≠ .unused7) (ht : s.toggle ≠ 1) :
    tickStep s = .next (trailingEvent (decToggle s)) := by
  have h : (trailingEvent (decToggle s)).toggle ≠ 0 := by
    rw [trailingEvent_eq]
    simp only [decToggle_toggle]
    bv_omega
  simp only [tickStep, hf, h, if_false]

/-- A tick step on a counter of 1 is the zero event of its state, after the trailing event (R141, R143, R144). -/
theorem tickStep_zero {s : State} (hf : s.framing ≠ .unused7) (ht : s.toggle = 1) :
    tickStep s = zeroEvent (trailingEvent (decToggle s)) := by
  have h : (trailingEvent (decToggle s)).toggle = 0 := by
    rw [trailingEvent_eq]
    simp [ht]
  simp only [tickStep, hf, h, if_false, if_true]

/-- With the timer stopped no tick step occurs (R140). -/
theorem tickEvent_stopped {s : State} (h : s.timerEn = false) : tickEvent s = .next s := by simp [tickEvent, h]

/-- With the timer running a firing is a tick step (R140). -/
theorem tickEvent_running {s : State} (h : s.timerEn = true) : tickEvent s = tickStep s := by simp [tickEvent, h]

end Sys2Proof.Machine
end

