-- ==== Sys2Proof/Tests/Slice0.lean ====
section
/-! SUPPORT. Tests on small states, with expected values from spec/95_test_vectors.md (W, V) or worked out by hand from the
rules, and for every obligation with hypotheses a concrete state and operands that meet them. -/

namespace Sys2Proof.Tests

open Sys2Proof Sys2Proof.Machine

/-! ### Helpers -/

/-- The next state, if there is one. -/
def nextOf (o : Host.Outcome State Fault Refusal) : Option State :=
  match o with
  | .next t => some t
  | _ => none

/-- The reason a step stopped, if it did. -/
def faultOf (o : Host.Outcome State Fault Refusal) : Option Fault :=
  match o with
  | .fault f => some f
  | _ => none

/-- The bytes of the frame. -/
def frameBytes (s : State) : List Byte := s.buf.toList.map BufByte.val

/-- A configured, idle core with P1's timing (H = 4, L = 6, T = 2, G = 10, M = 1), two repetitions and a frame of `EE`. -/
def quiet : State :=
  { State.reset with
    configured := true, cfgLow := 6, cfgHigh := 4, cfgTrail := 2, cfgGap := 10, cfgGapmul := 1, cfgRepeat := 2
    buf := Vector.replicate 10 ⟨0xEE, true⟩, txOut := .low }

/-- `quiet`, right after an arm. -/
def sending : State := { quiet with active := true, timerEn := true, toggle := 4 }

/-- `sending`, one tick before the zero event of `f`. -/
def due (f : Framing) : State := { sending with framing := f, toggle := 1 }

/-- `sending` with V19j's timing (L = 3, H = 2, T = 5, G = 4): no trailing event ever drives OFF an ON symbol. -/
def keyed : State := { sending with cfgLow := 3, cfgHigh := 2, cfgTrail := 5, cfgGap := 4, toggle := 2 }

/-- `quiet`, with an address never written. -/
def unaddressed : State := { quiet with buf := Vector.replicate 10 ⟨0, false⟩ }

/-- `quiet` with storage at the top of its address space. -/
def stored : State :=
  { quiet with params := { defaultParams with nvmPresent := true, nvmPersist := true, nvmBase := 0xFFFE } }

/-! ### Words -/

theorem test_decode_setup :
    decodeTableWord 128 0x0000000000000000000003E800030501 = some (.setup 5 3 false 1000) := by decide

theorem test_decode_cfg_timing :
    decodeTableWord 128 0x00000000000000000000000A02040602 = some (.cfgTiming 6 4 2 10) := by decide

theorem test_decode_cfg_gapmul :
    decodeTableWord 128 0x00000000000000000000000000FFFF03 = some (.cfgGapmul 65535) := by decide

theorem test_decode_set_addr :
    decodeTableWord 128 0x00000000000000000000050403020104 = some (.setAddr #v[1, 2, 3, 4, 5]) := by decide

theorem test_decode_send_raw :
    decodeTableWord 128 0x00000000000908070605040302010005 = some (.sendRaw #v[0, 1, 2, 3, 4, 5, 6, 7, 8, 9]) := by decide

theorem test_decode_send_cmd :
    decodeTableWord 128 0x000000000000000000000004021F0306 = some (.sendCmd 3 0x1F 2 4) := by decide

theorem test_decode_is_ready : decodeTableWord 128 0x00000000000000000000000000000007 = some .isReady := by decide

/-- V4, read the other way. -/
theorem test_encode :
    encode (.setup 5 3 false 1000) = 0x0000000000000000000003E800030501 ∧
    encode (.cfgTiming 6 4 2 10) = 0x00000000000000000000000A02040602 ∧
    encode (.cfgGapmul 65535) = 0x00000000000000000000000000FFFF03 ∧
    encode (.setAddr #v[1, 2, 3, 4, 5]) = 0x00000000000000000000050403020104 ∧
    encode (.sendRaw #v[0, 1, 2, 3, 4, 5, 6, 7, 8, 9]) = 0x00000000000908070605040302010005 ∧
    encode (.sendCmd 3 0x1F 2 4) = 0x000000000000000000000004021F0306 ∧
    encode .isReady = 0x07 := by decide

/-- The opcode table gives a row 8 bits; the operands are then 0. -/
theorem test_table_rows :
    decodeTableWord 8 1 = some (.setup 0 0 false 0) ∧ decodeTableWord 8 2 = some (.cfgTiming 0 0 0 0) ∧
    decodeTableWord 8 3 = some (.cfgGapmul 0) ∧ decodeTableWord 8 4 = some (.setAddr #v[0, 0, 0, 0, 0]) ∧
    decodeTableWord 8 5 = some (.sendRaw #v[0, 0, 0, 0, 0, 0, 0, 0, 0, 0]) ∧
    decodeTableWord 8 6 = some (.sendCmd 0 0 0 0) ∧ decodeTableWord 8 7 = some .isReady := by decide

/-- V5: words refused by the check on words, and by the decoder. -/
theorem test_illformed_words :
    legalWord 0x00 = false ∧ legalWord 0x08 = false ∧ legalWord 0x0F = false ∧ legalWord 0x17 = false ∧
    decodeTableWord 128 0x00 = none ∧ decodeTableWord 128 0x08 = none ∧ decodeTableWord 128 0x0F = none ∧
    decodeTableWord 128 0x17 = none := by decide

/-- V6: a reserved bit refused by the check on canonical words, and ignored by the decoder; `CMD[31:25]` is not `INVERT`. -/
theorem test_reserved_bits :
    canonicalWord 0xFF000000000000000000067200010201 = false ∧
    canonicalWord 0x00000000000000000000067200010201 = true ∧
    decodeTableWord 128 0xFF000000000000000000067200010201 = some (.setup 2 1 false 1650) ∧
    decodeTableWord 128 0x000000000000000000000000FE010201 = some (.setup 2 1 false 0) := by decide

/-- R83's own spelling of a command. -/
theorem test_assembly : assembly (.sendCmd 3 31 2 4) = "SEND_CMD command=3, parameter=31, room=2, device=4" := by decide

/-- The first step after `withFetchWord` runs the word, on each row of the table. -/
theorem test_first_step :
    ([1, 2, 3, 4, 5, 6, 7, 0].map fun w =>
      (nextOf (step (State.reset.withFetchWord 8 w))).bind (fun t => t.rsp)) =
      [some 0x04, some 0x04, some 0x04, some 0x04, some 0x07, some 0x07, some 0x04, some 0x06] := by decide

/-! ### The Nibble Encoder -/

/-- V1. -/
theorem test_symbols :
    ([0, 1, 2, 3, 4, 5, 6, 7, 8, 9, 10, 11, 12, 13, 14, 15] : List Byte).map (encodeNibble defaultParams) =
      [0xF6, 0xEE, 0xED, 0xEB, 0xDE, 0xDD, 0xDB, 0xBE, 0xBD, 0xBB, 0xB7, 0x7E, 0x7D, 0x7B, 0x77, 0x6F] := by decide

/-- V2. -/
theorem test_symbols_masked :
    ([0x13, 0xFF, 0x10, 0xA5] : List Byte).map (encodeNibble defaultParams) = [0xEB, 0x6F, 0xF6, 0xDD] := by decide

/-! ### Commands -/

/-- W5: a repeat count of 0 or 40 leaves the old one, 39 and 1 are taken. -/
theorem test_setup_repeat :
    ([0, 40, 39, 1] : List (BitVec 8)).map (fun r => (nextOf (exec (.setup 2 r false 1650) quiet)).map (·.cfgRepeat)) =
      [some 2, some 2, some 39, some 1] := by decide

/-- V8: the pin takes the OFF level of the new polarity. -/
theorem test_setup_pin :
    (nextOf (exec (.setup 2 39 true 1650) State.reset)).map (fun t => (t.txOut, t.cfgPin, t.cfgPeriod, t.configured)) =
      some (.high, 2, 1650, true) ∧
    (nextOf (exec (.setup 2 1 false 1650) State.reset)).map (·.txOut) = some .low := by decide

/-- V4 and R110: which operand goes where. -/
theorem test_cfg_timing :
    (nextOf (exec (.cfgTiming 6 4 2 10) State.reset)).map (fun t => (t.cfgLow, t.cfgHigh, t.cfgTrail, t.cfgGap)) =
      some (6, 4, 2, 10) := by decide

theorem test_cfg_gapmul : (nextOf (exec (.cfgGapmul 65535) State.reset)).map (·.cfgGapmul) = some 65535 := by decide

/-- V7 and V15: the high nibbles are ignored; positions 0..3 and 9 stay unwritten. -/
theorem test_set_addr :
    (nextOf (exec (.setAddr #v[0x11, 0x22, 0x33, 0x44, 0x55]) State.reset)).map
        (fun t => (frameBytes t, t.buf.toList.map (·.written))) =
      some ([0, 0, 0, 0, 0xEE, 0xED, 0xEB, 0xDE, 0xDD, 0],
        [false, false, false, false, true, true, true, true, true, false]) := by decide

/-- V12: the addresses wrap modulo `2^16`, the writes are in order, and storage lists them by address. -/
theorem test_set_addr_persists :
    (nextOf (exec (.setAddr #v[1, 2, 3, 4, 5]) stored)).map (fun t => (t.nvmLog, t.nvm)) =
      some ([.write 0xFFFE 0xEE, .write 0xFFFF 0xED, .write 0 0xEB, .write 1 0xDE, .write 2 0xDD],
        [(0, 0xEB), (1, 0xDE), (2, 0xDD), (0xFFFE, 0xEE), (0xFFFF, 0xED)]) := by decide

/-- V9. -/
theorem test_send_raw :
    (nextOf (exec (.sendRaw #v[0, 1, 2, 3, 4, 5, 6, 7, 8, 9]) quiet)).map
        (fun t => (frameBytes t, t.active, t.timerEn, t.toggle, t.rsp)) =
      some ([0xF6, 0xEE, 0xED, 0xEB, 0xDE, 0xDD, 0xDB, 0xBE, 0xBD, 0xBB], true, true, 4, some 0x00) := by decide

/-- V10: verbatim without translation. -/
theorem test_send_raw_verbatim :
    (nextOf (exec (.sendRaw #v[0xFF, 0, 0xFF, 0, 0xFF, 0, 0xFF, 0, 0xFF, 0x13])
      { quiet with params := { defaultParams with translate := false } })).map frameBytes =
      some [0xFF, 0, 0xFF, 0, 0xFF, 0, 0xFF, 0, 0xFF, 0x13] := by decide

/-- V14 and W6: the frame order and the masking of SEND_CMD. -/
theorem test_send_cmd :
    (nextOf (exec (.sendCmd 0x13 0x1F 0x12 0xF4) quiet)).map frameBytes =
      some [0xEE, 0x6F, 0xDE, 0xEB, 0xEE, 0xEE, 0xEE, 0xEE, 0xEE, 0xED] := by decide

/-- V21. -/
theorem test_send_cmd_unwritten : faultOf (exec (.sendCmd 3 0x1F 2 4) unaddressed) = some .unwrittenBuf := by decide

/-- W3 and V11. -/
theorem test_is_ready :
    (nextOf (exec .isReady State.reset)).map (·.rsp) = some (some 0x04) ∧
    (nextOf (exec .isReady sending)).map (·.rsp) = some (some 0x00) := by decide

/-- V11: a refused command changes nothing but the response. -/
theorem test_busy : nextOf (exec (.cfgTiming 1 1 1 1) sending) = some { sending with rsp := some 0x01 } := by decide

/-! ### Ticks, from V16 -/

/-- The part of the state a row of V16 shows. -/
structure Row where
  framing : Framing
  toggle : BitVec 8
  repCnt : BitVec 8
  byteIdx : BitVec 4
  bitMask : BitVec 8
  gapRep : BitVec 16
  txOut : Level
  active : Bool
  deriving DecidableEq, Repr

/-- V16's row of a state. -/
def cursor (s : State) : Row := ⟨s.framing, s.toggle, s.repCnt, s.byteIdx, s.bitMask, s.gapRep, s.txOut, s.active⟩

/-- Tick 3: a trailing event. -/
theorem test_tick_trailing :
    (nextOf (tickStep { sending with toggle := 3, framing := .byteStart, txOut := .high })).map cursor =
      some ⟨.byteStart, 2, 0, 0, 0x80, 0, .low, true⟩ := by decide

/-- Tick 4. -/
theorem test_tick_idle : (nextOf (tickStep (due .idle))).map cursor = some ⟨.msgStart, 4, 0, 0, 0x80, 0, .low, true⟩ := by
  decide

/-- Tick 8. -/
theorem test_tick_msg_start :
    (nextOf (tickStep { due .msgStart with byteIdx := 10 })).map cursor =
      some ⟨.byteStart, 4, 0, 0, 0x80, 0, .high, true⟩ := by decide

/-- Tick 12. -/
theorem test_tick_byte_start :
    (nextOf (tickStep { due .byteStart with bitMask := 0 })).map cursor =
      some ⟨.sendByte, 4, 0, 0, 0x80, 0, .high, true⟩ := by decide

/-- Tick 28: bit 4 of `EE` is 0. -/
theorem test_tick_zero_bit :
    (nextOf (tickStep { due .sendByte with bitMask := 0x10 })).map cursor =
      some ⟨.sendByte, 6, 0, 0, 0x08, 0, .low, true⟩ := by decide

/-- Tick 46: the last bit of byte 0. -/
theorem test_tick_last_bit :
    (nextOf (tickStep { due .sendByte with bitMask := 0x01 })).map cursor =
      some ⟨.byteStart, 6, 0, 1, 0, 0, .low, true⟩ := by decide

/-- Tick 408: a 1, the last bit of byte 9. -/
theorem test_tick_last_byte :
    (nextOf (tickStep { due .sendByte with buf := Vector.replicate 10 ⟨0xED, true⟩, byteIdx := 9, bitMask := 0x01 })).map
        cursor =
      some ⟨.msgEnd, 4, 0, 10, 0, 0, .high, true⟩ := by decide

/-- Tick 412. -/
theorem test_tick_msg_end :
    (nextOf (tickStep { due .msgEnd with byteIdx := 10, bitMask := 0 })).map cursor =
      some ⟨.gapStart, 4, 0, 10, 0, 1, .high, true⟩ := by decide

/-- Ticks 416 and 426. -/
theorem test_tick_gap_start :
    (nextOf (tickStep { due .gapStart with byteIdx := 10, bitMask := 0, gapRep := 1 })).map cursor =
      some ⟨.gapStart, 10, 0, 10, 0, 0, .low, true⟩ ∧
    (nextOf (tickStep { due .gapStart with byteIdx := 10, bitMask := 0 })).map cursor =
      some ⟨.gapEnd, 10, 0, 10, 0, 0, .low, true⟩ := by decide

/-- Tick 436, and with a second repetition to come. -/
theorem test_tick_gap_end :
    (nextOf (tickStep { due .gapEnd with cfgRepeat := 1, byteIdx := 10, bitMask := 0 })).map cursor =
      some ⟨.idle, 4, 1, 10, 0, 0, .low, false⟩ ∧
    (nextOf (tickStep { due .gapEnd with byteIdx := 10, bitMask := 0 })).map cursor =
      some ⟨.msgStart, 4, 1, 10, 0, 0, .low, true⟩ := by decide

/-- V19i: with `T = 0` the drive of the zero event wins; a 0 bit ends OFF. -/
theorem test_tick_trail_zero :
    (nextOf (tickStep { due .byteStart with cfgTrail := 0, txOut := .high })).map (·.txOut) = some .high ∧
    (nextOf (tickStep { due .sendByte with cfgTrail := 0, txOut := .high, bitMask := 0x10 })).map (·.txOut) = some .low := by
  decide

/-- R37: the counter wraps from 0 to 255. -/
theorem test_tick_wraps : (nextOf (tickStep { sending with toggle := 0 })).map (·.toggle) = some 255 := by decide

/-- R182. -/
theorem test_tick_bad_state : faultOf (tickStep { sending with framing := .unused7 }) = some .badState := by decide

/-- R185: a firing with the timer stopped is no tick step. -/
theorem test_tick_stopped : nextOf (step { quiet with inputs := [.tick] }) = some quiet := by decide

/-- V19a: 432 ticks a repetition with `n1 = 60`, READY after 436. -/
theorem test_durations :
    repetitionTicks quiet = 432 ∧ ticksToReady { quiet with cfgRepeat := 1 } = 436 := by decide

/-! ### Witnesses: for each obligation with hypotheses, values that meet them -/

theorem witness_EncodeOfDecode : decode 0xFF000000000000000000067200010201 = .ok (.setup 2 1 false 1650) := by rfl

theorem witness_IllegalWordAnswered :
    (0x100 : Cmd).extractLsb' 0 4 = 0 ∧ 8 ≤ ((0x08 : Cmd).extractLsb' 0 4).toNat ∧
    8 ≤ ((0x0F : Cmd).extractLsb' 0 4).toNat ∧ (0x17 : Cmd).extractLsb' 4 4 ≠ 0 ∧ sending.active = true := by decide

theorem witness_StepRunsDecodedCommand :
    (State.reset.withFetchWord 8 7).inputs = .command 7 :: [] ∧ decode 7 = .ok .isReady := ⟨rfl, rfl⟩

theorem witness_StepDeliversTicks :
    ({ sending with inputs := [.tick] } : State).inputs = .tick :: [] ∧ sending.inputs = [] ∧ sending.timerEn = true ∧
    quiet.inputs = [] ∧ quiet.timerEn = false := by decide

theorem witness_StepResetsTheBlock : ({ sending with inputs := [.reset] } : State).inputs = .reset :: [] := rfl

theorem witness_SetupEffect : quiet.active = false ∧ quiet.params.nvmPresent = false := by decide

theorem witness_SetupRestoresAddress : stored.active = false ∧ stored.params.nvmPresent = true := by decide

theorem witness_CfgTimingEffect :
    (0x0A02040602 : Cmd).extractLsb' 0 8 = 0x02 ∧ quiet.active = false ∧ sending.active = true := by decide

theorem witness_CfgGapmulEffect :
    (0xFFFF03 : Cmd).extractLsb' 0 8 = 0x03 ∧ quiet.active = false ∧ sending.active = true := by decide

/-- Also with a reserved bit set. -/
theorem witness_IsReadyEffect : (0x07 : Cmd).extractLsb' 0 8 = 0x07 ∧ (0x107 : Cmd).extractLsb' 0 8 = 0x07 := by decide

theorem witness_SetAddrEffect : quiet.active = false := by decide

/-- Another address than the five, beside each end of the wrapped range. -/
theorem witness_SetAddrStoresEncodedBytes :
    stored.active = false ∧ stored.params.nvmPersist = true ∧
    (∀ i : Fin 5, 3 ≠ (nvAddr stored.params i).toNat) ∧ (∀ i : Fin 5, 0xFFFD ≠ (nvAddr stored.params i).toNat) := by decide

theorem witness_SendRawEffect : quiet.active = false ∧ quiet.configured = true := by decide

theorem witness_SendCmdEffect :
    quiet.active = false ∧ quiet.configured = true ∧
    (∀ k : Fin 10, 4 ≤ k.val → k.val ≤ 8 → quiet.buf[k].written = true) := by decide

theorem witness_SendCmdStopsOnUnwrittenAddress :
    unaddressed.active = false ∧ unaddressed.configured = true ∧
    (∃ k : Fin 10, 4 ≤ k.val ∧ k.val ≤ 8 ∧ unaddressed.buf[k].written = false) :=
  ⟨rfl, rfl, 8, by decide, by decide, rfl⟩

theorem witness_BusyGuard : sending.active = true ∧ Instr.cfgGapmul 0 ≠ .isReady := by decide

theorem witness_UnconfiguredGuard :
    State.reset.active = false ∧ State.reset.configured = false ∧
    (∀ b, Instr.isReady ≠ .sendRaw b) ∧ ∀ c p r d, Instr.isReady ≠ .sendCmd c p r d :=
  ⟨rfl, rfl, fun _ h => Instr.noConfusion h, fun _ _ _ _ h => Instr.noConfusion h⟩

theorem witness_GuardOrder :
    legalWord 0x08 = false ∧
    (legalWord 1 = true ∧ sending.active = true ∧ (1 : Cmd).toNat % 16 ≠ 7) ∧
    (legalWord 5 = true ∧ legalWord 6 = true ∧ State.reset.active = false ∧ State.reset.configured = false) ∧
    (legalWord 7 = true ∧ (7 : Cmd).toNat % 16 = 7 ∧ quiet.active = false ∧ quiet.configured = true) := by decide

theorem witness_FrameOfConfiguring :
    (∃ t, exec (.setup 2 1 false 1650) quiet = .next t) ∧ (∃ t, exec (.setup 2 1 false 1650) stored = .next t) ∧
    (∃ t, exec (.cfgTiming 6 4 2 10) quiet = .next t) ∧ ∃ t, exec (.cfgGapmul 1) quiet = .next t :=
  ⟨⟨_, rfl⟩, ⟨_, rfl⟩, ⟨_, rfl⟩, ⟨_, rfl⟩⟩

theorem witness_FrameOfSetAddr :
    (∃ t, exec (.setAddr #v[1, 2, 3, 4, 5]) quiet = .next t) ∧ quiet.params.nvmPersist = false ∧
    (∃ t, exec (.setAddr #v[1, 2, 3, 4, 5]) stored = .next t) :=
  ⟨⟨_, rfl⟩, rfl, ⟨_, rfl⟩⟩

theorem witness_FrameOfSendingAndQuery :
    (∃ t, exec (.sendRaw #v[0, 1, 2, 3, 4, 5, 6, 7, 8, 9]) quiet = .next t) ∧
    (∃ t, exec (.sendCmd 3 0x1F 2 4) quiet = .next t) ∧ ∃ t, exec .isReady quiet = .next t :=
  ⟨⟨_, rfl⟩, ⟨_, rfl⟩, ⟨_, rfl⟩⟩

theorem witness_OnlyLowNibblesMatter :
    (∀ k : Fin 5, (#v[1, 2, 3, 4, 0xF5] : Vector Byte 5)[k].toNat % 16 = (#v[0x11, 2, 3, 4, 5] : Vector Byte 5)[k].toNat % 16) ∧
    quiet.params.translate = true ∧ (0x13 : Byte).toNat % 16 = (3 : Byte).toNat % 16 ∧
    (∀ k : Fin 10, (Vector.replicate 10 (0xF3 : Byte))[k].toNat % 16 = (Vector.replicate 10 (3 : Byte))[k].toNat % 16) := by
  decide

theorem witness_EncoderLooksUpLowNibble : distinctSymbols defaultParams.symbolTable := by decide

theorem witness_QuietTick :
    sending.framing ≠ .unused7 ∧ sending.toggle ≠ 1 ∧ ({ sending with toggle := 3 } : State).toggle - 1 = sending.cfgTrail := by
  decide

theorem witness_ZeroEventIdle :
    (due .idle).framing = .idle ∧ (due .idle).toggle = 1 ∧ (due .idle).active = true := by decide

theorem witness_ZeroEventMsgStart : (due .msgStart).framing = .msgStart ∧ (due .msgStart).toggle = 1 := by decide

theorem witness_ZeroEventByteStart : (due .byteStart).framing = .byteStart ∧ (due .byteStart).toggle = 1 := by decide

/-- Byte 9, the last of the frame. -/
theorem witness_ZeroEventSendByte :
    ({ due .sendByte with byteIdx := 9 } : State).byteIdx.toNat < 10 ∧ (due .sendByte).framing = .sendByte ∧
    (due .sendByte).toggle = 1 := by decide

theorem witness_ZeroEventMsgEnd : (due .msgEnd).framing = .msgEnd ∧ (due .msgEnd).toggle = 1 := by decide

theorem witness_ZeroEventGapStart : (due .gapStart).framing = .gapStart ∧ (due .gapStart).toggle = 1 := by decide

/-- The last repetition, and the one before it. -/
theorem witness_ZeroEventGapEnd :
    (due .gapEnd).framing = .gapEnd ∧ (due .gapEnd).toggle = 1 ∧
    ({ due .gapEnd with repCnt := 1 } : State).cfgRepeat.toNat ≤ (1 + 1 : BitVec 8).toNat ∧
    ((due .gapEnd).repCnt + 1).toNat < (due .gapEnd).cfgRepeat.toNat := by decide

theorem witness_FrameOfTick : ∃ t, tickStep (due .gapEnd) = .next t := ⟨_, rfl⟩

/-- Both stops, and a tick that does not stop. -/
theorem witness_TickStopsOnlyByName :
    tickStep { sending with framing := .unused7 } = .fault .badState ∧
    tickStep { due .sendByte with byteIdx := 10 } = .fault .frameOverrun ∧ ∃ t, tickStep (due .sendByte) = .next t :=
  ⟨rfl, rfl, ⟨_, rfl⟩⟩

theorem witness_InvariantAtReset : defaultParams.ok := by decide

theorem witness_StepKeepsInvariant : Inv sending ∧ ∃ t, step sending = .next t := ⟨by decide, ⟨_, rfl⟩⟩

/-- A state of each kind: one whose step goes on, and one whose step is a SEND_CMD without an address. -/
theorem witness_OnlyAnUnwrittenSendStops :
    Inv sending ∧ (∃ t, step sending = .next t) ∧
    Inv (unaddressed.withFetchWord 8 6) ∧ step (unaddressed.withFetchWord 8 6) = .fault .unwrittenBuf :=
  ⟨by decide, ⟨_, rfl⟩, by decide, rfl⟩

theorem witness_StorageStaysCanonical : Memory.wf stored.nvm ∧ ∃ t, step (stored.withFetchWord 8 4) = .next t :=
  ⟨by decide, ⟨_, rfl⟩⟩

theorem witness_ParametersNeverChange : ∃ t, step (quiet.withFetchWord 8 1) = .next t := ⟨_, rfl⟩

theorem witness_StorageUntouchedWhenUnused :
    quiet.params.nvmPresent = false ∧ quiet.params.nvmPersist = false ∧ ∃ t, step (quiet.withFetchWord 8 4) = .next t :=
  ⟨rfl, rfl, ⟨_, rfl⟩⟩

/-- A command that writes one, and a reset. -/
theorem witness_ConfigurationWriters :
    (∃ t, step (quiet.withFetchWord 128 0x0703) = .next t ∧ t.cfgGapmul ≠ (quiet.withFetchWord 128 0x0703).cfgGapmul) ∧
    ∃ t, step { quiet with inputs := [.reset] } = .next t ∧ t.cfgHigh ≠ quiet.cfgHigh :=
  ⟨⟨_, rfl, by decide⟩, ⟨_, rfl, by decide⟩⟩

/-- Each status bit set and cleared, in the order of the clauses. -/
theorem witness_StatusBitWriters :
    (quiet.active = false ∧ ∃ t, step (quiet.withFetchWord 8 5) = .next t ∧ t.active = true) ∧
    (∃ t, step { due .gapEnd with cfgRepeat := 1 } = .next t ∧ t.active = false) ∧
    (State.reset.configured = false ∧ ∃ t, step (State.reset.withFetchWord 8 1) = .next t ∧ t.configured = true) ∧
    (quiet.configured = true ∧ ∃ t, step { quiet with inputs := [.reset] } = .next t ∧ t.configured = false) :=
  ⟨⟨rfl, _, rfl, rfl⟩, ⟨_, rfl, rfl⟩, ⟨rfl, _, rfl, rfl⟩, ⟨rfl, _, rfl, rfl⟩⟩

theorem witness_PinAndFrameWriters :
    (∃ t, step (due .msgStart) = .next t ∧ t.txOut ≠ (due .msgStart).txOut) ∧
    ∃ t, step (quiet.withFetchWord 8 5) = .next t ∧ t.buf ≠ quiet.buf :=
  ⟨⟨_, rfl, by decide⟩, ⟨_, rfl, by decide⟩⟩

theorem witness_CommandWhileActiveOnlyAnswers :
    sending.active = true ∧ (sending.withFetchWord 8 4).inputs = .command 4 :: [] := ⟨rfl, rfl⟩

/-- A counter of 0 lasts 256 ticks, its last quiet offset is 255; a counter of 1 has the offset 0 only. -/
theorem witness_SymbolPeriod :
    sending.timerEn = true ∧ sending.framing ≠ .unused7 ∧ 255 < eff 0 ∧ 0 < eff 1 ∧ 3 < eff sending.toggle := by decide

/-- Each of the four zero events that drive ON, and the first and last tick of its symbol. -/
theorem witness_OnSymbolLevels :
    zeroEventDue .msgStart (due .msgStart) ∧ zeroEventDue .byteStart (due .byteStart) ∧
    zeroEventDue .msgEnd (due .msgEnd) ∧ zeroEventDue .sendByte (due .sendByte) ∧
    bitTested (due .sendByte) (by decide) = true ∧ 0 < eff sending.cfgHigh ∧ 3 < eff sending.cfgHigh := by decide

theorem witness_ZeroBitIsSilent :
    zeroEventDue .sendByte { due .sendByte with bitMask := 0x10 } ∧
    bitTested { due .sendByte with bitMask := 0x10 } (by decide) = false ∧ sending.txOut = offLevel sending ∧
    5 < eff sending.cfgLow := by decide

/-- The last of two intervals, and a tick inside the first. -/
theorem witness_GapLength :
    zeroEventDue .gapStart { due .gapStart with gapRep := 1 } ∧ 1 ≤ (1 : BitVec 16).toNat ∧
    0 < ((1 : BitVec 16).toNat + 1) * eff sending.cfgGap ∧
    ∃ t, tickRun 0 { due .gapStart with gapRep := 1 } = .next t ∧ zeroEventDue .gapStart t :=
  ⟨by decide, by decide, by decide, ⟨_, rfl, by decide⟩⟩

theorem witness_TicksPerRepetition :
    zeroEventDue .msgStart (due .msgStart) ∧ (due .msgStart).repCnt.toNat + 1 < (due .msgStart).cfgRepeat.toNat ∧
    1 < repetitionTicks (due .msgStart) ∧ (∃ t, tickRun 1 (due .msgStart) = .next t) ∧
    (∀ k : Fin 10, quiet.buf[k].val ∈ defaultSymbolTable.toList) :=
  ⟨by decide, by decide, by decide, ⟨_, rfl⟩, by decide⟩

theorem witness_TicksToReady :
    Inv sending ∧ justArmed sending ∧ 0 < eff sending.cfgHigh + sending.cfgRepeat.toNat * repetitionTicks sending ∧
    1 ≤ sending.cfgRepeat.toNat := by decide

theorem witness_WaveformOfARepetition :
    zeroEventDue .msgStart (due .msgStart) ∧ (due .msgStart).cfgTrail.toNat < eff (due .msgStart).cfgHigh ∧
    0 < (repetitionWave (due .msgStart)).length := by
  refine ⟨by decide, by decide, ?_⟩
  rw [repetitionWave, List.length_append, List.length_replicate]
  exact Nat.lt_of_lt_of_le (by decide : 0 < eff (due .msgStart).cfgHigh) (Nat.le_add_left _ _)

theorem witness_StartLatency :
    Inv sending ∧ justArmed sending ∧ 0 + 1 < 2 * eff sending.cfgHigh ∧ (∃ t, tickRun 0 sending = .next t) ∧
    sending.txOut = offLevel sending :=
  ⟨by decide, by decide, by decide, ⟨_, rfl⟩, rfl⟩

/-- A pin that ends OFF, and V19j's timing, whose pin stays ON. -/
theorem witness_StateAfterTransmission :
    (Inv sending ∧ justArmed sending ∧ sending.cfgTrail.toNat < eff sending.cfgHigh) ∧
    (Inv keyed ∧ justArmed keyed ∧ ¬ keyed.cfgTrail.toNat < eff keyed.cfgHigh ∧
      ¬ keyed.cfgTrail.toNat < eff keyed.cfgGap) :=
  ⟨⟨by decide, by decide, by decide⟩, by decide, by decide, by decide, by decide⟩

/-- A tick with a refused command before and after it. -/
theorem witness_CommandsDoNotDisturbATransmission :
    Input.reset ∉ [Input.command 1, .tick, .command 4] ∧ tickCount [.command 1, .tick, .command 4] = 1 ∧
    ∀ n : Nat, n ≤ 1 → ∃ u, tickRun n sending = .next u ∧ u.active = true ∧ u.timerEn = true := by
  refine ⟨by decide, by decide, fun n h => ?_⟩
  match n, h with
  | 0, _ => exact ⟨_, rfl, rfl, rfl⟩
  | 1, _ => exact ⟨_, rfl, rfl, rfl⟩

end Sys2Proof.Tests
end

/-! ## Proofs: one step of the machine, and the parameters (spec/00_scope.md R9, R15) -/

namespace Sys2Proof.Machine

/-- A step that answers `s` and answers `t` has `t = s`. -/
theorem eq_of_next {s t : State} (h : (.next s : Host.Outcome State Fault Refusal) = .next t) : t = s :=
  (Host.Outcome.next.inj h).symm

/-! ### The next event (R15, R62) -/

/-- The state with the next event taken off the events to come; a silent environment has none to take. -/
def takeEvent (s : State) : State := { s with inputs := s.inputs.tail }

@[simp] theorem takeEvent_params (s : State) : (takeEvent s).params = s.params := rfl

theorem takeEvent_of_cons {s : State} {e : Input} {rest : List Input} (h : s.inputs = e :: rest) :
    takeEvent s = { s with inputs := rest } := by rw [takeEvent, h, List.tail_cons]

theorem takeEvent_of_nil {s : State} (h : s.inputs = []) : takeEvent s = s := by rw [takeEvent, h, List.tail_nil, ← h]

theorem step_of_cons {s : State} {e : Input} {rest : List Input} (h : s.inputs = e :: rest) :
    step s = deliver e (takeEvent s) := by
  rw [takeEvent_of_cons h, step, nextEvent, h]

theorem step_of_nil {s : State} (h : s.inputs = []) : step s = tickEvent (takeEvent s) := by
  rw [takeEvent_of_nil h, step, nextEvent, h]

theorem commandStep_of_decode {w : Cmd} {i : Instr} (h : decode w = .ok i) (s : State) : commandStep w s = exec i s := by
  rw [commandStep, h]

theorem commandStep_of_error {w : Cmd} {e : DecodeError} (h : decode w = .error e) (s : State) :
    commandStep w s = .next (respond .illegal s) := by
  rw [commandStep, h]

/-- Everything a step that does not stop can be: a command, a word that spells none, a firing of the timer, or a reset. -/
theorem step_next {s t : State} (h : step s = .next t) :
    (∃ i, commandNext i s ∧ exec i (takeEvent s) = .next t) ∨
    (∃ w rest e, s.inputs = .command w :: rest ∧ decode w = .error e ∧ t = respond .illegal (takeEvent s)) ∨
    ((s.inputs = [] ∨ ∃ rest, s.inputs = .tick :: rest) ∧ tickEvent (takeEvent s) = .next t) ∨
    (resetNext s ∧ t = powerCycle (takeEvent s)) := by
  match hin : s.inputs with
  | [] =>
    rw [step_of_nil hin] at h
    exact .inr (.inr (.inl ⟨.inl rfl, h⟩))
  | .tick :: rest =>
    rw [step_of_cons hin] at h
    exact .inr (.inr (.inl ⟨.inr ⟨rest, rfl⟩, h⟩))
  | .reset :: rest =>
    rw [step_of_cons hin] at h
    exact .inr (.inr (.inr ⟨⟨rest, hin⟩, eq_of_next h⟩))
  | .command w :: rest =>
    rw [step_of_cons hin, deliver] at h
    cases hw : decode w with
    | ok i =>
      rw [commandStep_of_decode hw] at h
      exact .inl ⟨i, ⟨w, rest, hin, hw⟩, h⟩
    | error e =>
      rw [commandStep_of_error hw] at h
      exact .inr (.inl ⟨w, rest, e, rfl, hw, eq_of_next h⟩)

/-- Settles O7: the step delivers the word to the command port, whose decoder gives `i`. -/
theorem stepRunsDecodedCommand : Obligations.StepRunsDecodedCommand := by
  intro s w rest i hin hw
  calc step s = commandStep w (takeEvent s) := step_of_cons hin
    _ = exec i (takeEvent s) := commandStep_of_decode hw _
    _ = exec i { s with inputs := rest } := by rw [takeEvent_of_cons hin]

/-! ### What a guarded command, an arm and a tick can answer -/

/-- A command behind the BUSY guard that does not stop answers BUSY or runs its body (R101). -/
theorem unlessBusy_next {s t : State} {body : State → Host.Outcome State Fault Refusal}
    (h : unlessBusy s body = .next t) :
    (s.active = true ∧ t = respond .busy s) ∨ (s.active = false ∧ body s = .next t) := by
  obtain ⟨ha, he⟩ | ⟨ha, he⟩ := unlessBusy_cases s body <;> rw [he] at h
  · exact .inl ⟨ha, eq_of_next h⟩
  · exact .inr ⟨ha, h⟩

/-- A send behind the UNCONFIGURED guard that does not stop answers UNCONFIGURED or runs its body (R102). -/
theorem ifConfigured_next {s t : State} {body : State → Host.Outcome State Fault Refusal}
    (h : ifConfigured s body = .next t) :
    (s.configured = false ∧ t = respond .unconfigured s) ∨ (s.configured = true ∧ body s = .next t) := by
  cases hc : s.configured with
  | false =>
    rw [ifConfigured_false hc] at h
    exact .inl ⟨rfl, eq_of_next h⟩
  | true =>
    rw [ifConfigured_true hc] at h
    exact .inr ⟨rfl, h⟩

/-- An arm that does not stop found the frame written (R121). -/
theorem armAndRespond_next {s t : State} (h : armAndRespond s = .next t) :
    frameWritten s = true ∧ t = respond .ok (armed s) := by
  obtain ⟨hf, he⟩ | ⟨-, he⟩ := armAndRespond_cases s <;> rw [he] at h
  · exact ⟨hf, eq_of_next h⟩
  · cases h

/-- A send (R123, R125) that does not stop answers BUSY, answers UNCONFIGURED, or arms the frame it built. -/
theorem send_next {s t : State} {build : State → State}
    (h : (unlessBusy s fun s => ifConfigured s fun s => armAndRespond (build s)) = .next t) :
    (s.active = true ∧ t = respond .busy s) ∨
    (s.active = false ∧ s.configured = false ∧ t = respond .unconfigured s) ∨
    (s.active = false ∧ s.configured = true ∧ frameWritten (build s) = true ∧ t = respond .ok (armed (build s))) := by
  obtain hbusy | ⟨ha, h⟩ := unlessBusy_next h
  · exact .inl hbusy
  · obtain ⟨hc, ht⟩ | ⟨hc, h⟩ := ifConfigured_next h
    · exact .inr (.inl ⟨ha, hc, ht⟩)
    · exact .inr (.inr ⟨ha, hc, armAndRespond_next h⟩)

/-- A `send_byte` zero event that does not stop tests one bit of the frame (R148). -/
theorem zeroSendByte_next {s t : State} (h : zeroSendByte s = .next t) :
    ∃ hi : s.byteIdx.toNat < 10, t = advanceBit (sendBit (bitTested s hi) s) := by
  unfold zeroSendByte at h
  split at h
  · next hi => exact ⟨hi, eq_of_next h⟩
  · cases h

/-- The reload every zero event begins with (R143). -/
def reloadToggle (s : State) : State := { s with toggle := s.cfgHigh }

@[simp] theorem reloadToggle_params (s : State) : (reloadToggle s).params = s.params := rfl

/-! One equation per framing state (R145-R151), and the model fault of the unused code (R152). -/

theorem zeroEvent_idle {s : State} (h : s.framing = .idle) :
    zeroEvent s = .next (zeroIdle (reloadToggle s)) := by simp only [zeroEvent, reloadToggle, h]

theorem zeroEvent_msgStart {s : State} (h : s.framing = .msgStart) :
    zeroEvent s = .next (zeroMsgStart (reloadToggle s)) := by simp only [zeroEvent, reloadToggle, h]

theorem zeroEvent_byteStart {s : State} (h : s.framing = .byteStart) :
    zeroEvent s = .next (zeroByteStart (reloadToggle s)) := by simp only [zeroEvent, reloadToggle, h]

theorem zeroEvent_sendByte {s : State} (h : s.framing = .sendByte) :
    zeroEvent s = zeroSendByte (reloadToggle s) := by simp only [zeroEvent, reloadToggle, h]

theorem zeroEvent_msgEnd {s : State} (h : s.framing = .msgEnd) :
    zeroEvent s = .next (zeroMsgEnd (reloadToggle s)) := by simp only [zeroEvent, reloadToggle, h]

theorem zeroEvent_gapStart {s : State} (h : s.framing = .gapStart) :
    zeroEvent s = .next (zeroGapStart (reloadToggle s)) := by simp only [zeroEvent, reloadToggle, h]

theorem zeroEvent_gapEnd {s : State} (h : s.framing = .gapEnd) :
    zeroEvent s = .next (zeroGapEnd (reloadToggle s)) := by simp only [zeroEvent, reloadToggle, h]

theorem zeroEvent_unused7 {s : State} (h : s.framing = .unused7) :
    zeroEvent s = .fault .badState := by simp only [zeroEvent, h]

/-- A zero event that does not stop is the arm of its framing state after the reload (R143). -/
theorem zeroEvent_next {s t : State} (h : zeroEvent s = .next t) :
    (s.framing = .idle ∧ t = zeroIdle (reloadToggle s)) ∨
    (s.framing = .msgStart ∧ t = zeroMsgStart (reloadToggle s)) ∨
    (s.framing = .byteStart ∧ t = zeroByteStart (reloadToggle s)) ∨
    (s.framing = .sendByte ∧ zeroSendByte (reloadToggle s) = .next t) ∨
    (s.framing = .msgEnd ∧ t = zeroMsgEnd (reloadToggle s)) ∨
    (s.framing = .gapStart ∧ t = zeroGapStart (reloadToggle s)) ∨
    (s.framing = .gapEnd ∧ t = zeroGapEnd (reloadToggle s)) := by
  cases hf : s.framing with
  | idle => simpa using eq_of_next ((zeroEvent_idle hf).symm.trans h)
  | msgStart => simpa using eq_of_next ((zeroEvent_msgStart hf).symm.trans h)
  | byteStart => simpa using eq_of_next ((zeroEvent_byteStart hf).symm.trans h)
  | sendByte => simpa using (zeroEvent_sendByte hf).symm.trans h
  | msgEnd => simpa using eq_of_next ((zeroEvent_msgEnd hf).symm.trans h)
  | gapStart => simpa using eq_of_next ((zeroEvent_gapStart hf).symm.trans h)
  | gapEnd => simpa using eq_of_next ((zeroEvent_gapEnd hf).symm.trans h)
  | unused7 => simp [zeroEvent_unused7 hf] at h

/-- A firing of the timer that does not stop changes nothing, only counts down, or is a zero event (R140, R141, R143). -/
theorem tickEvent_next {s t : State} (h : tickEvent s = .next t) :
    (s.timerEn = false ∧ t = s) ∨
    (s.timerEn = true ∧ s.framing ≠ .unused7 ∧ s.toggle ≠ 1 ∧ t = trailingEvent (decToggle s)) ∨
    (s.timerEn = true ∧ s.framing ≠ .unused7 ∧ s.toggle = 1 ∧ zeroEvent (trailingEvent (decToggle s)) = .next t) := by
  cases hen : s.timerEn with
  | false =>
    rw [tickEvent_stopped hen] at h
    exact .inl ⟨rfl, eq_of_next h⟩
  | true =>
    rw [tickEvent_running hen] at h
    have hf : s.framing ≠ .unused7 := fun hf => by simp [tickStep, hf] at h
    by_cases ht : s.toggle = 1
    · rw [tickStep_zero hf ht] at h
      exact .inr (.inr ⟨rfl, hf, ht, h⟩)
    · rw [tickStep_quiet hf ht] at h
      exact .inr (.inl ⟨rfl, hf, ht, eq_of_next h⟩)

/-! ### No operation writes the parameters (log entry 1) -/

@[simp] theorem setupRegisters_params (pin rep : BitVec 8) (invert : Bool) (period : BitVec 32) (s : State) :
    (setupRegisters pin rep invert period s).params = s.params := rfl

@[simp] theorem restoreAddress_params (s : State) : (restoreAddress s).params = s.params := by
  rw [restoreAddress_eq]

@[simp] theorem buildAddress_params (a : Vector Byte 5) (s : State) : (buildAddress a s).params = s.params := rfl

@[simp] theorem persistAddress_params (s : State) : (persistAddress s).params = s.params := by
  rw [persistAddress_eq]

@[simp] theorem buildRaw_params (b : Vector Byte 10) (s : State) : (buildRaw b s).params = s.params := rfl

@[simp] theorem buildFields_params (command parameter room device : Byte) (s : State) :
    (buildFields command parameter room device s).params = s.params := rfl

@[simp] theorem powerCycle_params (s : State) : (powerCycle s).params = s.params := rfl

@[simp] theorem trailingEvent_params (s : State) : (trailingEvent s).params = s.params := by
  rw [trailingEvent_eq]

@[simp] theorem zeroIdle_params (s : State) : (zeroIdle s).params = s.params := by
  unfold zeroIdle
  split <;> rfl

@[simp] theorem zeroMsgStart_params (s : State) : (zeroMsgStart s).params = s.params := rfl

@[simp] theorem zeroByteStart_params (s : State) : (zeroByteStart s).params = s.params := rfl

@[simp] theorem sendBit_params (bit : Bool) (s : State) : (sendBit bit s).params = s.params := by
  cases bit <;> rfl

@[simp] theorem advanceBit_params (s : State) : (advanceBit s).params = s.params := by
  rw [advanceBit_eq]

@[simp] theorem zeroMsgEnd_params (s : State) : (zeroMsgEnd s).params = s.params := rfl

@[simp] theorem zeroGapStart_params (s : State) : (zeroGapStart s).params = s.params := by
  unfold zeroGapStart
  dsimp only
  split <;> rfl

@[simp] theorem zeroGapEnd_params (s : State) : (zeroGapEnd s).params = s.params := by
  unfold zeroGapEnd
  dsimp only
  split <;> rfl

/-- A send whose building keeps the parameters keeps them, refused or not. -/
theorem send_params {s t : State} {build : State → State} (hbuild : (build s).params = s.params)
    (h : (unlessBusy s fun s => ifConfigured s fun s => armAndRespond (build s)) = .next t) : t.params = s.params := by
  obtain ⟨-, rfl⟩ | ⟨-, -, rfl⟩ | ⟨-, -, -, rfl⟩ := send_next h <;> simp [hbuild]

/-- A configuring command whose writes keep the parameters keeps them, refused or not. -/
theorem configure_params {s t : State} {write : State → State} (hwrite : (write s).params = s.params)
    (h : (unlessBusy s fun s => .next (respond .ok (write s))) = .next t) : t.params = s.params := by
  obtain ⟨-, rfl⟩ | ⟨-, h⟩ := unlessBusy_next h
  · rfl
  · rw [eq_of_next h, respond_params, hwrite]

theorem exec_params {i : Instr} {s t : State} (h : exec i s = .next t) : t.params = s.params := by
  cases i with
  | setup pin rep invert period =>
    exact configure_params (write := fun s => restoreAddress (driveOff (setupRegisters pin rep invert period s)))
      (by simp) h
  | cfgTiming low high trail gap =>
    exact configure_params
      (write := fun s => { s with cfgLow := low, cfgHigh := high, cfgTrail := trail, cfgGap := gap }) rfl h
  | cfgGapmul n => exact configure_params (write := fun s => { s with cfgGapmul := n }) rfl h
  | setAddr a => exact configure_params (write := fun s => persistAddress (buildAddress a s)) (by simp) h
  | sendRaw b => exact send_params (buildRaw_params b s) h
  | sendCmd command parameter room device => exact send_params (buildFields_params command parameter room device s) h
  | isReady => rw [eq_of_next h, respond_params]

theorem zeroSendByte_params {s t : State} (h : zeroSendByte s = .next t) : t.params = s.params := by
  obtain ⟨-, rfl⟩ := zeroSendByte_next h
  simp

theorem zeroEvent_params {s t : State} (h : zeroEvent s = .next t) : t.params = s.params := by
  obtain ⟨-, rfl⟩ | ⟨-, rfl⟩ | ⟨-, rfl⟩ | ⟨-, h⟩ | ⟨-, rfl⟩ | ⟨-, rfl⟩ | ⟨-, rfl⟩ := zeroEvent_next h
  case inr.inr.inr.inl => simpa using zeroSendByte_params h
  all_goals simp

theorem tickEvent_params {s t : State} (h : tickEvent s = .next t) : t.params = s.params := by
  obtain ⟨-, rfl⟩ | ⟨-, -, -, rfl⟩ | ⟨-, -, -, h⟩ := tickEvent_next h
  · rfl
  · simp
  · simpa using zeroEvent_params h

/-- Settles O44, by the four things a step can be. -/
theorem parametersNeverChange : Obligations.ParametersNeverChange := by
  intro s t h
  obtain ⟨i, -, h⟩ | ⟨w, rest, e, -, -, rfl⟩ | ⟨-, h⟩ | ⟨-, rfl⟩ := step_next h
  · simpa using exec_params h
  · simp
  · simpa using tickEvent_params h
  · simp

end Sys2Proof.Machine

/-! ## Proofs: what an accepted command writes (spec/41_host_commands.md R101-R127) -/

namespace Sys2Proof.Machine

/-- What a command writes before its response when no guard refuses it. -/
def effect : Instr → State → State
  | .setup pin rep invert period, s => restoreAddress (driveOff (setupRegisters pin rep invert period s))
  | .cfgTiming low high trail gap, s => { s with cfgLow := low, cfgHigh := high, cfgTrail := trail, cfgGap := gap }
  | .cfgGapmul n, s => { s with cfgGapmul := n }
  | .setAddr a, s => persistAddress (buildAddress a s)
  | .sendRaw b, s => armed (buildRaw b s)
  | .sendCmd command parameter room device, s => armed (buildFields command parameter room device s)
  | .isReady, s => s

/-- The command is SETUP. -/
def isSetup (i : Instr) : Prop := ∃ pin rep invert period, i = .setup pin rep invert period

/-- The command is SEND_RAW or SEND_CMD. -/
def isSend (i : Instr) : Prop := (∃ b, i = .sendRaw b) ∨ ∃ c p r d, i = .sendCmd c p r d

/-- The command `i` takes the idle core `s` to `t`: it writes and answers OK. A send is taken only in a configured core, and
leaves a written frame (R102, R121). -/
def Accepts (i : Instr) (s t : State) : Prop :=
  s.active = false ∧ t = respond .ok (effect i s) ∧
    (isSend i → s.configured = true ∧ frameWritten (effect i s) = true)

/-- A command behind the BUSY guard alone either only answers or is accepted (R101). -/
theorem guarded_next {i : Instr} {s t : State} (hi : ¬ isSend i)
    (h : (unlessBusy s fun s => .next (respond .ok (effect i s))) = .next t) :
    (∃ c, t = respond c s) ∨ Accepts i s t := by
  obtain ⟨-, rfl⟩ | ⟨ha, h⟩ := unlessBusy_next h
  · exact .inl ⟨_, rfl⟩
  · exact .inr ⟨ha, eq_of_next h, fun hs => absurd hs hi⟩

/-- A send either only answers or is accepted (R101, R102, R121). -/
theorem guardedSend_next {i : Instr} {s t : State} {build : State → State} (hi : effect i s = armed (build s))
    (h : (unlessBusy s fun s => ifConfigured s fun s => armAndRespond (build s)) = .next t) :
    (∃ c, t = respond c s) ∨ Accepts i s t := by
  obtain ⟨-, rfl⟩ | ⟨-, -, rfl⟩ | ⟨ha, hc, hw, ht⟩ := send_next h
  · exact .inl ⟨_, rfl⟩
  · exact .inl ⟨_, rfl⟩
  · rw [← hi] at ht
    exact .inr ⟨ha, ht, fun _ => ⟨hc, by rw [hi]; exact hw⟩⟩

/-- A command that does not stop either only answers or is accepted (R101-R104). -/
theorem exec_next {i : Instr} {s t : State} (h : exec i s = .next t) : (∃ c, t = respond c s) ∨ Accepts i s t := by
  cases i with
  | setup pin rep invert period => exact guarded_next (i := .setup pin rep invert period) (by simp [isSend]) h
  | cfgTiming low high trail gap => exact guarded_next (i := .cfgTiming low high trail gap) (by simp [isSend]) h
  | cfgGapmul n => exact guarded_next (i := .cfgGapmul n) (by simp [isSend]) h
  | setAddr a => exact guarded_next (i := .setAddr a) (by simp [isSend]) h
  | sendRaw b => exact guardedSend_next (build := buildRaw b) rfl h
  | sendCmd command parameter room device =>
    exact guardedSend_next (build := buildFields command parameter room device) rfl h
  | isReady => exact .inl ⟨_, eq_of_next h⟩

/-- While `ACTIVE = 1` a command only answers, OK or BUSY (R101). -/
theorem exec_active {s : State} (ha : s.active = true) (i : Instr) :
    exec i s = .next (respond .ok s) ∨ exec i s = .next (respond .busy s) := by
  cases i with
  | isReady => exact .inl rfl
  | _ => exact .inr (by simp only [exec, execSetup, execCfgTiming, execCfgGapmul, execSetAddr, execSendRaw, execSendCmd,
      unlessBusy_active ha])

/-- A step that does not stop only answers a command, accepts one, is a firing of the timer, or is a reset. -/
theorem step_cases {s t : State} (h : step s = .next t) :
    (∃ c, t = respond c (takeEvent s)) ∨
    (∃ i, commandNext i s ∧ Accepts i (takeEvent s) t) ∨
    ((s.inputs = [] ∨ ∃ rest, s.inputs = .tick :: rest) ∧ tickEvent (takeEvent s) = .next t) ∨
    (resetNext s ∧ t = powerCycle (takeEvent s)) := by
  obtain ⟨i, hi, h⟩ | ⟨-, -, -, -, -, rfl⟩ | htick | hreset := step_next h
  · obtain hanswer | haccept := exec_next h
    · exact .inl hanswer
    · exact .inr (.inl ⟨i, hi, haccept⟩)
  · exact .inl ⟨.illegal, rfl⟩
  · exact .inr (.inr (.inl htick))
  · exact .inr (.inr (.inr hreset))

/-! ### Which commands write which registers -/

/-- The configuration is written by SETUP, CFG_TIMING and CFG_GAPMUL alone (R22). -/
theorem effect_config (i : Instr) (s : State) :
    sameConfig s (effect i s) ∨ isSetup i ∨ (∃ low high trail gap, i = .cfgTiming low high trail gap) ∨
      ∃ n, i = .cfgGapmul n := by
  cases i with
  | setup pin rep invert period => exact .inr (.inl ⟨_, _, _, _, rfl⟩)
  | cfgTiming low high trail gap => exact .inr (.inr (.inl ⟨_, _, _, _, rfl⟩))
  | cfgGapmul n => exact .inr (.inr (.inr ⟨n, rfl⟩))
  | setAddr a =>
    rw [effect, persistAddress_eq]
    exact .inl (by simp [sameConfig, buildAddress])
  | sendRaw b => exact .inl (by simp [sameConfig, effect, buildRaw])
  | sendCmd command parameter room device => exact .inl (by simp [sameConfig, effect, buildFields])
  | isReady => exact .inl (by simp [sameConfig, effect])

/-- `CONFIGURED` is written by SETUP alone, which sets it (R32). -/
theorem effect_configured (i : Instr) (s : State) :
    (effect i s).configured = s.configured ∨ isSetup i ∧ (effect i s).configured = true := by
  cases i with
  | setup pin rep invert period =>
    refine .inr ⟨⟨_, _, _, _, rfl⟩, ?_⟩
    rw [effect, restoreAddress_eq]
    rfl
  | setAddr a =>
    rw [effect, persistAddress_eq]
    exact .inl rfl
  | sendRaw b => exact .inl (by simp [effect, buildRaw])
  | _ => exact .inl rfl

/-- `ACTIVE` is written by the sends alone (R33). -/
theorem effect_active (i : Instr) (s : State) : (effect i s).active = s.active ∨ isSend i := by
  cases i with
  | setup pin rep invert period =>
    rw [effect, restoreAddress_eq]
    exact .inl rfl
  | setAddr a =>
    rw [effect, persistAddress_eq]
    exact .inl rfl
  | sendRaw b => exact .inr (.inl ⟨b, rfl⟩)
  | sendCmd command parameter room device => exact .inr (.inr ⟨_, _, _, _, rfl⟩)
  | _ => exact .inl rfl

/-- The pin is written by SETUP alone (R38). -/
theorem effect_txOut (i : Instr) (s : State) : (effect i s).txOut = s.txOut ∨ isSetup i := by
  cases i with
  | setup pin rep invert period => exact .inr ⟨_, _, _, _, rfl⟩
  | setAddr a =>
    rw [effect, persistAddress_eq]
    exact .inl rfl
  | sendRaw b => exact .inl (by simp [effect, buildRaw])
  | _ => exact .inl rfl

/-- The frame is written by a SETUP that restores, SET_ADDR and the sends alone (R35, R69). -/
theorem effect_buf (i : Instr) (s : State) :
    (effect i s).buf = s.buf ∨ (s.params.nvmPresent = true ∧ isSetup i) ∨ (∃ a, i = .setAddr a) ∨ isSend i := by
  cases i with
  | setup pin rep invert period =>
    cases hp : s.params.nvmPresent with
    | true => exact .inr (.inl ⟨rfl, _, _, _, _, rfl⟩)
    | false =>
      rw [effect, restoreAddress_eq]
      exact .inl (if_neg (by simp [hp]))
  | setAddr a => exact .inr (.inr (.inl ⟨a, rfl⟩))
  | sendRaw b => exact .inr (.inr (.inr (.inl ⟨b, rfl⟩)))
  | sendCmd command parameter room device => exact .inr (.inr (.inr (.inr ⟨_, _, _, _, rfl⟩)))
  | _ => exact .inl rfl

end Sys2Proof.Machine

/-! ## Proofs: what a tick writes (spec/42_tick_sequencer.md R140-R151) -/

namespace Sys2Proof.Machine

/-! Each arm that branches, as one record update (R145, R148, R150, R151). -/

theorem zeroIdle_eq (s : State) :
    zeroIdle s =
      { s with
        repCnt := if s.active then 0 else s.repCnt
        framing := if s.active then .msgStart else s.framing } := by
  unfold zeroIdle
  split <;> rfl

theorem sendBit_eq (bit : Bool) (s : State) :
    sendBit bit s =
      { s with
        toggle := if bit then s.toggle else s.cfgLow
        txOut := if bit then onLevel s else s.txOut } := by
  cases bit <;> rfl

theorem zeroSendByte_eq {s : State} (h : s.byteIdx.toNat < 10) :
    zeroSendByte s = .next (advanceBit (sendBit (bitTested s h) s)) := dif_pos h

theorem zeroGapStart_eq (s : State) :
    zeroGapStart s =
      { s with
        toggle := s.cfgGap
        gapRep := if s.gapRep = 0 then s.gapRep else s.gapRep - 1
        framing := if s.gapRep = 0 then .gapEnd else s.framing } := by
  unfold zeroGapStart
  by_cases h : s.gapRep = 0
  · simp only [h, if_true]
  · simp only [h, if_false]

/-- The repetition just counted is the last one (R151). -/
def lastRepetition (s : State) : Prop := s.cfgRepeat.toNat ≤ (s.repCnt + 1).toNat

theorem zeroGapEnd_last {s : State} (h : lastRepetition s) :
    zeroGapEnd s = { s with repCnt := s.repCnt + 1, timerEn := false, active := false, framing := .idle } := if_pos h

theorem zeroGapEnd_again {s : State} (h : ¬ lastRepetition s) :
    zeroGapEnd s = { s with repCnt := s.repCnt + 1, framing := .msgStart } := if_neg h

/-! ### What a tick leaves alone: the state with all a tick writes blanked out -/

/-- The state with the fields that a tick writes at fixed values. -/
def blankCursor (s : State) : State :=
  { s with
    active := false, timerEn := false, framing := .idle, toggle := 0, repCnt := 0, byteIdx := 0, bitMask := 0, gapRep := 0
    txOut := .z }

@[simp] theorem blankCursor_decToggle (s : State) : blankCursor (decToggle s) = blankCursor s := rfl

@[simp] theorem blankCursor_trailingEvent (s : State) : blankCursor (trailingEvent s) = blankCursor s := by
  rw [trailingEvent_eq]; rfl

@[simp] theorem blankCursor_reloadToggle (s : State) : blankCursor (reloadToggle s) = blankCursor s := rfl

@[simp] theorem blankCursor_zeroIdle (s : State) : blankCursor (zeroIdle s) = blankCursor s := by
  rw [zeroIdle_eq]; rfl

@[simp] theorem blankCursor_zeroMsgStart (s : State) : blankCursor (zeroMsgStart s) = blankCursor s := rfl

@[simp] theorem blankCursor_zeroByteStart (s : State) : blankCursor (zeroByteStart s) = blankCursor s := rfl

@[simp] theorem blankCursor_sendBit (bit : Bool) (s : State) : blankCursor (sendBit bit s) = blankCursor s := by
  rw [sendBit_eq]; rfl

@[simp] theorem blankCursor_advanceBit (s : State) : blankCursor (advanceBit s) = blankCursor s := by
  rw [advanceBit_eq]; rfl

@[simp] theorem blankCursor_zeroMsgEnd (s : State) : blankCursor (zeroMsgEnd s) = blankCursor s := rfl

@[simp] theorem blankCursor_zeroGapStart (s : State) : blankCursor (zeroGapStart s) = blankCursor s := by
  rw [zeroGapStart_eq]; rfl

@[simp] theorem blankCursor_zeroGapEnd (s : State) : blankCursor (zeroGapEnd s) = blankCursor s := by
  by_cases h : lastRepetition s
  · rw [zeroGapEnd_last h]; rfl
  · rw [zeroGapEnd_again h]; rfl

theorem zeroEvent_blankCursor {s t : State} (h : zeroEvent s = .next t) : blankCursor t = blankCursor s := by
  obtain ⟨-, rfl⟩ | ⟨-, rfl⟩ | ⟨-, rfl⟩ | ⟨-, h⟩ | ⟨-, rfl⟩ | ⟨-, rfl⟩ | ⟨-, rfl⟩ := zeroEvent_next h
  case inr.inr.inr.inl =>
    obtain ⟨-, rfl⟩ := zeroSendByte_next h
    simp
  all_goals simp

/-- A firing of the timer writes the cursor, the pin, `ACTIVE` and `TIMER_EN` alone (R22, R35, R162). -/
theorem tickEvent_blankCursor {s t : State} (h : tickEvent s = .next t) : blankCursor t = blankCursor s := by
  obtain ⟨-, rfl⟩ | ⟨-, -, -, rfl⟩ | ⟨-, -, -, h⟩ := tickEvent_next h
  · rfl
  · simp
  · simpa using zeroEvent_blankCursor h

theorem tickEvent_config {s t : State} (h : tickEvent s = .next t) : sameConfig s t := by
  have hb := tickEvent_blankCursor h
  simp only [blankCursor, State.mk.injEq] at hb
  simp [sameConfig, hb]

theorem tickEvent_configured {s t : State} (h : tickEvent s = .next t) : t.configured = s.configured := by
  simpa [blankCursor] using congrArg State.configured (tickEvent_blankCursor h)

theorem tickEvent_buf {s t : State} (h : tickEvent s = .next t) : t.buf = s.buf := by
  simpa [blankCursor] using congrArg State.buf (tickEvent_blankCursor h)

/-! ### `ACTIVE` -/

/-- A zero event changes `ACTIVE` in the last `gap_end` alone (R33, R151). -/
theorem zeroEvent_active {s t : State} (h : zeroEvent s = .next t) :
    t.active = s.active ∨ (t.active = false ∧ s.framing = .gapEnd ∧ lastRepetition s) := by
  obtain ⟨-, rfl⟩ | ⟨-, rfl⟩ | ⟨-, rfl⟩ | ⟨-, h⟩ | ⟨-, rfl⟩ | ⟨-, rfl⟩ | ⟨hf, rfl⟩ := zeroEvent_next h
  · rw [zeroIdle_eq]; exact .inl rfl
  · exact .inl rfl
  · exact .inl rfl
  · obtain ⟨-, rfl⟩ := zeroSendByte_next h
    rw [advanceBit_eq, sendBit_eq]
    exact .inl rfl
  · exact .inl rfl
  · rw [zeroGapStart_eq]; exact .inl rfl
  · by_cases hl : lastRepetition (reloadToggle s)
    · rw [zeroGapEnd_last hl]; exact .inr ⟨rfl, hf, hl⟩
    · rw [zeroGapEnd_again hl]; exact .inl rfl

/-- A firing of the timer changes `ACTIVE` in the last `gap_end` zero event alone (R33, R128). -/
theorem tickEvent_active {s t : State} (h : tickEvent s = .next t) :
    t.active = s.active ∨ (t.active = false ∧ zeroEventDue .gapEnd s ∧ lastRepetition s) := by
  obtain ⟨-, rfl⟩ | ⟨-, -, -, rfl⟩ | ⟨hen, -, ht, h⟩ := tickEvent_next h
  · exact .inl rfl
  · rw [trailingEvent_eq]; exact .inl rfl
  · rw [trailingEvent_eq] at h
    obtain ha | ⟨ha, hf, hl⟩ := zeroEvent_active h
    · exact .inl ha
    · exact .inr ⟨ha, ⟨hen, hf, ht⟩, hl⟩

end Sys2Proof.Machine

/-! ## Proofs: the invariant (spec/10_state.md R44, 42_tick_sequencer.md R152, R163) -/

namespace Sys2Proof.Machine

/-! ### How a state comes to meet the invariant -/

/-- An idle core meets the invariant whatever its frame and its pin: R163 and R121 ask nothing of it. -/
theorem inv_of_idle {s : State} (hparams : s.params.ok) (hactive : s.active = false) (htimer : s.timerEn = false)
    (hidle : s.framing = .idle) (hrepeat : legalRepeat s.cfgRepeat) (hidx : s.byteIdx.toNat ≤ 10)
    (hmask : s.bitMask ∈ maskValues) (hnvm : Memory.wf s.nvm) : Inv s := by
  refine ⟨hparams, ⟨?_, ?_, ?_, hrepeat, ?_, hidx, hmask⟩, ⟨?_, ?_, ?_, ?_⟩, hnvm⟩ <;>
    simp [hactive, htimer, hidle]

/-- The cursor of a transmission may move anywhere within its bounds (R44, R152, R163). -/
theorem inv_moveCursor {s : State} (h : Inv s) (ha : s.active = true) {f : Framing} (hf : f ≠ .unused7)
    {rep : BitVec 8} (hrep : rep.toNat < s.cfgRepeat.toNat)
    {idx : BitVec 4} (hidx : idx.toNat ≤ 10) {mask : BitVec 8} (hmask : mask ∈ maskValues)
    (hbyte : f = .byteStart → idx.toNat < 10) (hsend : f = .sendByte → idx.toNat < 10 ∧ mask ≠ 0)
    (toggle : BitVec 8) (gap : BitVec 16) (pin : Level) :
    Inv { s with
      framing := f, repCnt := rep, byteIdx := idx, bitMask := mask, toggle := toggle, gapRep := gap, txOut := pin } := by
  obtain ⟨hparams, ⟨htimer, -, hconf, hrepeat, -, -, -⟩, ⟨-, -, -, hwritten⟩, hnvm⟩ := h
  exact ⟨hparams, ⟨htimer, fun h => by simp [ha] at h, hconf, hrepeat, fun _ => hrep, hidx, hmask⟩,
    ⟨hf, hbyte, hsend, hwritten⟩, hnvm⟩

/-- A core that holds another framing state than `idle` transmits (R44). -/
theorem Inv.active_of_framing {s : State} (h : Inv s) (hf : s.framing ≠ .idle) : s.active = true := by
  obtain ⟨-, ⟨-, hidle, -⟩, -⟩ := h
  exact Bool.of_not_eq_false fun ha => hf (hidle ha)

/-! ### Commands -/

/-- Only `rsp` differs, which the invariant does not read. -/
theorem inv_respond {s : State} (h : Inv s) (c : Code) : Inv (respond c s) := h

/-- A configuring command keeps the invariant of an idle core. -/
theorem inv_effect_of_not_send {s : State} (h : Inv s) (ha : s.active = false) {i : Instr} (hi : ¬ isSend i) :
    Inv (effect i s) := by
  have ⟨hparams, ⟨htimer, hidle, _, hrepeat, _, hidx, hmask⟩, _, hnvm⟩ := h
  cases i with
  | setup pin rep invert period =>
    rw [effect, restoreAddress_eq]
    refine inv_of_idle hparams ha (htimer ▸ ha) (hidle ha) ?_ hidx hmask hnvm
    change legalRepeat (if legalRepeat rep then rep else s.cfgRepeat)
    split
    · assumption
    · exact hrepeat
  | setAddr a =>
    rw [effect, persistAddress_eq]
    exact inv_of_idle hparams ha (htimer ▸ ha) (hidle ha) hrepeat hidx hmask (persistAddress_wf hnvm)
  | sendRaw b => exact absurd (.inl ⟨b, rfl⟩) hi
  | sendCmd c p r d => exact absurd (.inr ⟨c, p, r, d, rfl⟩) hi
  | _ => exact h

/-- The arm of a configured core with a written frame keeps the invariant (R121). -/
theorem inv_armed {s : State} (h : Inv s) (hconf : s.configured = true) {f : Vector BufByte 10}
    (hwritten : frameWritten { s with buf := f } = true) : Inv (armed { s with buf := f }) := by
  obtain ⟨hparams, ⟨-, -, -, hrepeat, -⟩, -, hnvm⟩ := h
  refine ⟨hparams, ⟨rfl, ?_, fun _ => hconf, hrepeat, fun _ => hrepeat.1, ?_, ?_⟩,
    ⟨?_, ?_, ?_, fun _ => hwritten⟩, hnvm⟩ <;> simp [maskValues]

/-- An accepted send keeps the invariant: it arms the frame it built (R123, R125). -/
theorem inv_effect_of_send {s : State} (h : Inv s) {i : Instr} (hi : isSend i) (hconf : s.configured = true)
    (hwritten : frameWritten (effect i s) = true) : Inv (effect i s) := by
  obtain ⟨b, rfl⟩ | ⟨c, p, r, d, rfl⟩ := hi
  · exact inv_armed h hconf (f := (buildRaw b s).buf) hwritten
  · exact inv_armed h hconf (f := (buildFields c p r d s).buf) hwritten

theorem Accepts.inv {i : Instr} {s t : State} (h : Inv s) (hacc : Accepts i s t) : Inv t := by
  obtain ⟨ha, rfl, hsend⟩ := hacc
  refine inv_respond ?_ .ok
  by_cases hi : isSend i
  · obtain ⟨hconf, hwritten⟩ := hsend hi
    exact inv_effect_of_send h hi hconf hwritten
  · exact inv_effect_of_not_send h ha hi

/-! ### Ticks -/

theorem inv_trailingEvent {s : State} (h : Inv s) : Inv (trailingEvent s) := by
  rw [trailingEvent_eq]
  exact h

/-- A mask shifted right stays one-hot or zero (R41). -/
theorem shifted_mem_maskValues {m : BitVec 8} (h : m ∈ maskValues) : m >>> 1 ∈ maskValues := by
  have key : ∀ m ∈ maskValues, m >>> 1 ∈ maskValues := by decide
  exact key m h

/-- The bit step keeps the invariant: it enters a next byte only up to `BUF[9]` (R148, R163). -/
theorem inv_sendByte {s : State} (h : Inv s) (hf : s.framing = .sendByte) (bit : Bool) :
    Inv (advanceBit (sendBit bit s)) := by
  have ⟨_, ⟨_, _, _, _, hrep, _, hmask⟩, ⟨_, _, hsend, _⟩, _⟩ := h
  have ha : s.active = true := h.active_of_framing (by simp [hf])
  obtain ⟨hlt, -⟩ := hsend hf
  have hmask := shifted_mem_maskValues hmask
  rw [advanceBit_eq, sendBit_eq]
  by_cases hm : s.bitMask >>> 1 = 0
  · by_cases hidx : 10 ≤ (s.byteIdx + 1).toNat
    · simp only [hm, hidx, if_true]
      exact inv_moveCursor h ha (by simp) (hrep ha) (by bv_omega) (by decide) (by simp) (by simp) ..
    · simp only [hm, hidx, if_true, if_false]
      exact inv_moveCursor h ha (by simp) (hrep ha) (by bv_omega) (by decide) (by bv_omega) (by simp) ..
  · simp only [hm, if_false]
    exact inv_moveCursor h ha (by simp [hf]) (hrep ha) hlt.le hmask (by simp [hf]) (fun _ => ⟨hlt, hm⟩) ..

/-- The `gap_end` zero event keeps the invariant: it counts the repetitions up to the limit and ends the transmission there
(R151). -/
theorem inv_zeroGapEnd {s : State} (h : Inv s) (hf : s.framing = .gapEnd) : Inv (zeroGapEnd s) := by
  have ⟨hparams, ⟨_, _, _, hrepeat, _, hidx, hmask⟩, _, hnvm⟩ := h
  by_cases hl : lastRepetition s
  · rw [zeroGapEnd_last hl]
    exact inv_of_idle hparams rfl rfl rfl hrepeat hidx hmask hnvm
  · rw [zeroGapEnd_again hl]
    exact inv_moveCursor h (h.active_of_framing (by simp [hf])) (by simp) (not_le.mp hl) hidx hmask (by simp) (by simp) ..

theorem zeroEvent_inv {s t : State} (h : Inv s) (he : zeroEvent s = .next t) : Inv t := by
  have hs : Inv (reloadToggle s) := h
  have ⟨_, ⟨_, _, _, hrepeat, hrep, hidx, hmask⟩, ⟨_, hbyte, _, _⟩, _⟩ := h
  have hactive : s.framing ≠ .idle → s.active = true := h.active_of_framing
  obtain ⟨hf, rfl⟩ | ⟨hf, rfl⟩ | ⟨hf, rfl⟩ | ⟨hf, he⟩ | ⟨hf, rfl⟩ | ⟨hf, rfl⟩ | ⟨hf, rfl⟩ := zeroEvent_next he
  · unfold zeroIdle
    split
    · next ha => exact inv_moveCursor h ha (by simp) (rep := 0) hrepeat.1 hidx hmask (by simp) (by simp) ..
    · exact hs
  · have ha := hactive (by simp [hf])
    exact inv_moveCursor h ha (by simp) (hrep ha) (by simp) hmask (by simp) (by simp) ..
  · have ha := hactive (by simp [hf])
    exact inv_moveCursor h ha (by simp) (hrep ha) hidx (by decide) (by simp) (fun _ => ⟨hbyte hf, by decide⟩) ..
  · obtain ⟨-, rfl⟩ := zeroSendByte_next he
    exact inv_sendByte hs hf _
  · have ha := hactive (by simp [hf])
    exact inv_moveCursor h ha (by simp) (hrep ha) hidx hmask (by simp) (by simp) ..
  · have ha := hactive (by simp [hf])
    rw [zeroGapStart_eq]
    refine inv_moveCursor h ha ?_ (hrep ha) hidx hmask ?_ ?_ .. <;> split <;> simp [reloadToggle, hf]
  · exact inv_zeroGapEnd hs hf

theorem tickEvent_inv {s t : State} (h : Inv s) (he : tickEvent s = .next t) : Inv t := by
  have hs : Inv (trailingEvent (decToggle s)) := inv_trailingEvent (s := decToggle s) h
  obtain ⟨-, rfl⟩ | ⟨-, -, -, rfl⟩ | ⟨-, -, -, he⟩ := tickEvent_next he
  · exact h
  · exact hs
  · exact zeroEvent_inv hs he

/-! ### Reset -/

theorem inv_resetWith {p : Params} (hp : p.ok) : Inv (State.resetWith p) :=
  inv_of_idle hp rfl rfl rfl hp.2 (Nat.zero_le _) (by simp [State.resetWith, maskValues]) reset_wf

theorem inv_powerCycle {s : State} (h : Inv s) : Inv (powerCycle s) := by
  obtain ⟨hparams, -, -, hnvm⟩ := h
  exact inv_of_idle hparams rfl rfl rfl hparams.2 (Nat.zero_le _)
    (by simp [powerCycle, State.resetWith, maskValues]) (powerCycle_wf hnvm)

/-- Settles O40: a block just reset is idle. -/
theorem invariantAtReset : Obligations.InvariantAtReset :=
  ⟨fun _ => inv_resetWith, inv_resetWith (by decide)⟩

/-- Settles O41, by the four things a step can be. -/
theorem stepKeepsInvariant : Obligations.StepKeepsInvariant := by
  intro s t h hstep
  have hs : Inv (takeEvent s) := h
  obtain ⟨c, rfl⟩ | ⟨i, -, hacc⟩ | ⟨-, he⟩ | ⟨-, rfl⟩ := step_cases hstep
  · exact inv_respond hs c
  · exact hacc.inv hs
  · exact tickEvent_inv hs he
  · exact inv_powerCycle hs

end Sys2Proof.Machine

/-! ## Proofs: who writes the registers (spec/10_state.md R22, R32, R33, R35, R38) -/

namespace Sys2Proof.Machine

/-- Settles O39: each field of the reset state is as `State.resetWith` gives it. -/
theorem resetValues : Obligations.ResetValues := by
  intro p
  simp [State.resetWith, framingCode]

/-- Settles O46: of the four things a step can be, an accepted configuring command and a reset alone write the
configuration. -/
theorem configurationWriters : Obligations.ConfigurationWriters := by
  intro s t hstep hchange
  obtain ⟨c, rfl⟩ | ⟨i, hi, ha, rfl, -⟩ | ⟨-, he⟩ | ⟨hreset, -⟩ := step_cases hstep
  · exact absurd ⟨rfl, rfl, rfl, rfl, rfl, rfl, rfl, rfl, rfl⟩ hchange
  · refine .inr ⟨ha, ?_⟩
    obtain hsame | ⟨pin, rep, invert, period, rfl⟩ | ⟨low, high, trail, gap, rfl⟩ | ⟨n, rfl⟩ :=
      effect_config i (takeEvent s)
    · exact absurd hsame hchange
    · exact .inl ⟨pin, rep, invert, period, hi⟩
    · exact .inr (.inl ⟨low, high, trail, gap, hi⟩)
    · exact .inr (.inr ⟨n, hi⟩)
  · exact absurd (tickEvent_config he) hchange
  · exact .inl hreset

theorem commandNext_setup {i : Instr} {s : State} (hi : isSetup i) (h : commandNext i s) :
    ∃ pin rep invert period, commandNext (.setup pin rep invert period) s := by
  obtain ⟨pin, rep, invert, period, rfl⟩ := hi
  exact ⟨pin, rep, invert, period, h⟩

theorem commandNext_send {i : Instr} {s : State} (hi : isSend i) (h : commandNext i s) :
    (∃ b, commandNext (.sendRaw b) s) ∨ ∃ c p r d, commandNext (.sendCmd c p r d) s := by
  obtain ⟨b, rfl⟩ | ⟨c, p, r, d, rfl⟩ := hi
  · exact .inl ⟨b, h⟩
  · exact .inr ⟨c, p, r, d, h⟩

/-- A step that changes `ACTIVE` is an accepted send, which sets it, or a reset or the `gap_end` zero event that reaches the
repeat limit, which clear it (R33, R121, R151). -/
theorem step_changes_active {s t : State} (hstep : step s = .next t) (hchange : t.active ≠ s.active) :
    (s.active = false ∧ s.configured = true ∧ ∃ i, isSend i ∧ commandNext i s) ∨
    (t.active = false ∧ (resetNext s ∨ (tickNext s ∧ zeroEventDue .gapEnd s ∧ lastRepetition s))) := by
  obtain ⟨c, rfl⟩ | ⟨i, hi, ha, rfl, hsend⟩ | ⟨htick, he⟩ | ⟨hreset, rfl⟩ := step_cases hstep
  · exact absurd rfl hchange
  · obtain hsame | hsnd := effect_active i (takeEvent s)
    · exact absurd hsame hchange
    · exact .inl ⟨ha, (hsend hsnd).1, i, hsnd, hi⟩
  · obtain hsame | ⟨ht, hdue, hlast⟩ := tickEvent_active he
    · exact absurd hsame hchange
    · exact .inr ⟨ht, .inr ⟨⟨hdue.1, htick⟩, hdue, hlast⟩⟩
  · exact .inr ⟨rfl, .inl hreset⟩

/-- A step that changes `CONFIGURED` is a SETUP, which sets it, or a reset, which clears it (R32). -/
theorem step_changes_configured {s t : State} (hstep : step s = .next t) (hchange : t.configured ≠ s.configured) :
    (t.configured = true ∧ ∃ i, isSetup i ∧ commandNext i s) ∨ (t.configured = false ∧ resetNext s) := by
  obtain ⟨c, rfl⟩ | ⟨i, hi, -, rfl, -⟩ | ⟨-, he⟩ | ⟨hreset, rfl⟩ := step_cases hstep
  · exact absurd rfl hchange
  · obtain hsame | ⟨hsetup, hset⟩ := effect_configured i (takeEvent s)
    · exact absurd hsame hchange
    · exact .inl ⟨hset, i, hsetup, hi⟩
  · exact absurd (tickEvent_configured he) hchange
  · exact .inr ⟨rfl, hreset⟩

/-- Settles O47: for each bit and each direction, the writers of the other direction leave the bit at the wrong value. -/
theorem statusBitWriters : Obligations.StatusBitWriters := by
  intro s t hstep
  refine ⟨fun hs ht => ?_, fun hs ht => ?_, fun hs ht => ?_, fun hs ht => ?_⟩
  · obtain ⟨-, hconf, i, hi, hnext⟩ | ⟨hclear, -⟩ := step_changes_active hstep (by simp [hs, ht])
    · exact ⟨hconf, commandNext_send hi hnext⟩
    · simp [ht] at hclear
  · obtain ⟨hidle, -⟩ | ⟨-, hwriter⟩ := step_changes_active hstep (by simp [hs, ht])
    · simp [hs] at hidle
    · exact hwriter
  · obtain ⟨-, i, hi, hnext⟩ | ⟨hclear, -⟩ := step_changes_configured hstep (by simp [hs, ht])
    · exact commandNext_setup hi hnext
    · simp [ht] at hclear
  · obtain ⟨hset, -⟩ | ⟨-, hreset⟩ := step_changes_configured hstep (by simp [hs, ht])
    · simp [ht] at hset
    · exact hreset

/-- A step that changes the pin is a SETUP taken while idle, a tick step or a reset (R38). -/
theorem step_changes_txOut {s t : State} (hstep : step s = .next t) (hchange : t.txOut ≠ s.txOut) :
    resetNext s ∨ tickNext s ∨ (s.active = false ∧ ∃ i, isSetup i ∧ commandNext i s) := by
  obtain ⟨c, rfl⟩ | ⟨i, hi, ha, rfl, -⟩ | ⟨htick, he⟩ | ⟨hreset, -⟩ := step_cases hstep
  · exact absurd rfl hchange
  · obtain hsame | hsetup := effect_txOut i (takeEvent s)
    · exact absurd hsame hchange
    · exact .inr (.inr ⟨ha, i, hsetup, hi⟩)
  · obtain ⟨-, rfl⟩ | ⟨hen, -⟩ | ⟨hen, -⟩ := tickEvent_next he
    · exact absurd rfl hchange
    · exact .inr (.inl ⟨hen, htick⟩)
    · exact .inr (.inl ⟨hen, htick⟩)
  · exact .inl hreset

/-- A step that changes the frame is a reset, or a command that writes it, taken while idle (R35, R69). -/
theorem step_changes_buf {s t : State} (hstep : step s = .next t) (hchange : t.buf ≠ s.buf) :
    resetNext s ∨ (s.active = false ∧ ∃ i, commandNext i s ∧
      ((s.params.nvmPresent = true ∧ isSetup i) ∨ (∃ a, i = .setAddr a) ∨ isSend i)) := by
  obtain ⟨c, rfl⟩ | ⟨i, hi, ha, rfl, -⟩ | ⟨-, he⟩ | ⟨hreset, -⟩ := step_cases hstep
  · exact absurd rfl hchange
  · obtain hsame | hwriter := effect_buf i (takeEvent s)
    · exact absurd hsame hchange
    · exact .inr ⟨ha, i, hi, hwriter⟩
  · exact absurd (tickEvent_buf he) hchange
  · exact .inl hreset

/-- Settles O48: what changes the pin, and what changes the frame. -/
theorem pinAndFrameWriters : Obligations.PinAndFrameWriters := by
  intro s t hstep
  refine ⟨fun hchange => ?_, fun hchange => ?_⟩
  · obtain hreset | htick | ⟨ha, i, hi, hnext⟩ := step_changes_txOut hstep hchange
    · exact .inl hreset
    · exact .inr (.inl htick)
    · exact .inr (.inr ⟨ha, commandNext_setup hi hnext⟩)
  · obtain hreset | ⟨ha, i, hnext, ⟨hnvm, hi⟩ | ⟨a, rfl⟩ | hi⟩ := step_changes_buf hstep hchange
    · exact .inl hreset
    · exact .inr ⟨ha, .inl ⟨hnvm, commandNext_setup hi hnext⟩⟩
    · exact .inr ⟨ha, .inr (.inl ⟨a, hnext⟩)⟩
    · exact .inr ⟨ha, .inr (.inr (commandNext_send hi hnext))⟩

end Sys2Proof.Machine

/-! ## Proofs: commands do not disturb a transmission (spec/10_state.md R45, 60_exceptions.md R186) -/

namespace Sys2Proof.Machine

/-- The core `s` with another response last returned and other events to come: what a host can change from outside. -/
def withOutside (r : Option Byte) (l : List Input) (s : State) : State := { s with rsp := r, inputs := l }

/-- While `ACTIVE = 1` a command step only answers: OK, BUSY, or ILLEGAL (R45, R101, R103). -/
theorem commandStep_active {s : State} (ha : s.active = true) (w : Cmd) :
    ∃ c, (c = .ok ∨ c = .busy ∨ c = .illegal) ∧ commandStep w s = .next (respond c s) := by
  cases hw : decode w with
  | ok i =>
    rw [commandStep_of_decode hw]
    obtain h | h := exec_active ha i
    · exact ⟨.ok, by simp, h⟩
    · exact ⟨.busy, by simp, h⟩
  | error e => exact ⟨.illegal, by simp, commandStep_of_error hw s⟩

/-- Settles O49: the response word of each of the three codes has READY = 0. -/
theorem commandWhileActiveOnlyAnswers : Obligations.CommandWhileActiveOnlyAnswers := by
  intro s w rest ha hin
  obtain ⟨c, hc, hstep⟩ := commandStep_active (s := { s with inputs := rest }) ha w
  refine ⟨responseWord c { s with inputs := rest }, ?_, ?_⟩
  · obtain rfl | rfl | rfl := hc <;> simp [responseWord_eq, ha]
  · rw [step_of_cons hin, takeEvent_of_cons hin]
    exact hstep

/-! ### Ticks do not look outside -/

theorem zeroIdle_withOutside (r : Option Byte) (l : List Input) (s : State) :
    zeroIdle (withOutside r l s) = withOutside r l (zeroIdle s) := by
  simp only [zeroIdle_eq]; rfl

theorem zeroGapStart_withOutside (r : Option Byte) (l : List Input) (s : State) :
    zeroGapStart (withOutside r l s) = withOutside r l (zeroGapStart s) := by
  simp only [zeroGapStart_eq]; rfl

theorem zeroGapEnd_withOutside (r : Option Byte) (l : List Input) (s : State) :
    zeroGapEnd (withOutside r l s) = withOutside r l (zeroGapEnd s) := by
  by_cases h : lastRepetition s
  · rw [zeroGapEnd_last h, zeroGapEnd_last (s := withOutside r l s) h]; rfl
  · rw [zeroGapEnd_again h, zeroGapEnd_again (s := withOutside r l s) h]; rfl

theorem zeroSendByte_withOutside {s t : State} (r : Option Byte) (l : List Input) (h : zeroSendByte s = .next t) :
    zeroSendByte (withOutside r l s) = .next (withOutside r l t) := by
  obtain ⟨hi, rfl⟩ := zeroSendByte_next h
  rw [zeroSendByte_eq (s := withOutside r l s) hi]
  simp only [advanceBit_eq, sendBit_eq]
  rfl

theorem zeroEvent_withOutside {s t : State} (r : Option Byte) (l : List Input) (h : zeroEvent s = .next t) :
    zeroEvent (withOutside r l s) = .next (withOutside r l t) := by
  obtain ⟨hf, rfl⟩ | ⟨hf, rfl⟩ | ⟨hf, rfl⟩ | ⟨hf, h⟩ | ⟨hf, rfl⟩ | ⟨hf, rfl⟩ | ⟨hf, rfl⟩ := zeroEvent_next h
  · rw [← zeroIdle_withOutside]; exact zeroEvent_idle hf
  · exact zeroEvent_msgStart hf
  · exact zeroEvent_byteStart hf
  · exact (zeroEvent_sendByte (s := withOutside r l s) hf).trans (zeroSendByte_withOutside r l h)
  · exact zeroEvent_msgEnd hf
  · rw [← zeroGapStart_withOutside]; exact zeroEvent_gapStart hf
  · rw [← zeroGapEnd_withOutside]; exact zeroEvent_gapEnd hf

/-- A firing of the timer does the same to the core whatever the response and the events to come. -/
theorem tickEvent_withOutside {s t : State} (r : Option Byte) (l : List Input) (h : tickEvent s = .next t) :
    tickEvent (withOutside r l s) = .next (withOutside r l t) := by
  have htrail : trailingEvent (decToggle (withOutside r l s)) = withOutside r l (trailingEvent (decToggle s)) := by
    simp only [trailingEvent_eq]; rfl
  obtain ⟨hen, rfl⟩ | ⟨hen, hf, ht, rfl⟩ | ⟨hen, hf, ht, h⟩ := tickEvent_next h
  · exact tickEvent_stopped hen
  · rw [← htrail]
    exact (tickEvent_running (s := withOutside r l s) hen).trans (tickStep_quiet hf ht)
  · calc tickEvent (withOutside r l s) = tickStep (withOutside r l s) := tickEvent_running hen
      _ = zeroEvent (trailingEvent (decToggle (withOutside r l s))) := tickStep_zero hf ht
      _ = .next (withOutside r l t) := by rw [htrail, zeroEvent_withOutside r l h]

/-! ### Runs -/

/-- A step that delivers a command to a transmitting core leaves all but the outside (R45). -/
theorem step_command_withOutside {s : State} (ha : s.active = true) (r : Option Byte) (w : Cmd) (l : List Input) :
    ∃ r', step (withOutside r (.command w :: l) s) = .next (withOutside r' l s) := by
  obtain ⟨r', -, h⟩ := commandWhileActiveOnlyAnswers (withOutside r (.command w :: l) s) w l ha rfl
  exact ⟨some r', h⟩

theorem step_tick_withOutside {s t : State} (h : tickEvent s = .next t) (r : Option Byte) (l : List Input) :
    step (withOutside r (.tick :: l) s) = .next (withOutside r l t) := by
  have h := tickEvent_withOutside r l h
  exact (step_of_cons (e := .tick) rfl).trans h

/-- A tick that goes on, and then a run of them. -/
theorem tickRun_succ {s t : State} (h : tickEvent s = .next t) (n : Nat) : tickRun (n + 1) s = tickRun n t := by
  rw [tickRun, h]

/-- A run that goes on begins with a tick that goes on. -/
theorem tickEvent_of_tickRun_one {s t : State} (h : tickRun 1 s = .next t) : tickEvent s = .next t := by
  cases he : tickEvent s <;> simp_all [tickRun]

/-- A run that begins with a step that goes on. -/
theorem run_succ {s t : State} (h : step s = .next t) (n : Nat) :
    Host.Core.run Sys2Proof.core (n + 1) s = Host.Core.run Sys2Proof.core n t := by
  have hcore : Sys2Proof.core.step s = .next t := h
  simp only [Host.Core.run, hcore]

/-- A run over commands and ticks of a transmission ends in the core that its ticks alone lead to. -/
theorem run_withOutside (l : List Input) (s : State) (r : Option Byte) (hreset : Input.reset ∉ l)
    (hticks : ∀ n : Nat, n ≤ tickCount l → ∃ u, tickRun n s = .next u ∧ u.active = true ∧ u.timerEn = true) :
    ∃ r' u, Host.Core.run Sys2Proof.core l.length (withOutside r l s) = .next (withOutside r' [] u) ∧
      tickRun (tickCount l) s = .next u := by
  induction l generalizing s r with
  | nil => exact ⟨r, s, rfl, rfl⟩
  | cons e l ih =>
    have hrest : Input.reset ∉ l := fun h => hreset (List.mem_cons_of_mem _ h)
    match e with
    | .reset => exact absurd List.mem_cons_self hreset
    | .command w =>
      have hcount : tickCount (.command w :: l) = tickCount l := List.count_cons_of_ne (by simp)
      obtain ⟨u, hu, ha, -⟩ := hticks 0 (Nat.zero_le _)
      obtain rfl := eq_of_next hu
      obtain ⟨r', hstep⟩ := step_command_withOutside ha r w l
      rw [hcount] at hticks ⊢
      rw [List.length_cons, run_succ hstep]
      exact ih u r' hrest hticks
    | .tick =>
      have hcount : tickCount (.tick :: l) = tickCount l + 1 := List.count_cons_self
      rw [hcount] at hticks ⊢
      obtain ⟨u, hu, -⟩ := hticks 1 (Nat.le_add_left _ _)
      have htick := tickEvent_of_tickRun_one hu
      rw [List.length_cons, run_succ (step_tick_withOutside htick r l), tickRun_succ htick]
      refine ih u r hrest fun n hn => ?_
      rw [← tickRun_succ htick]
      exact hticks (n + 1) (Nat.succ_le_succ hn)

/-- Settles O59, by induction on the events: a command leaves all but the outside, and no tick looks outside. -/
theorem commandsDoNotDisturbATransmission : Obligations.CommandsDoNotDisturbATransmission := by
  intro l s hreset hticks
  obtain ⟨r, u, hrun, hu⟩ := run_withOutside l s s.rsp hreset hticks
  exact ⟨withOutside r [] u, u, hrun, hu, rfl, rfl⟩

end Sys2Proof.Machine

/-! ## Proofs: storage (spec/20_memory.md R53, R54) -/

namespace Sys2Proof.Machine

/-- Storage, the access log and the draws are written by a SETUP that restores and a SET_ADDR that persists alone (R54). -/
theorem effect_storage (i : Instr) (s : State) :
    ((effect i s).nvm = s.nvm ∧ (effect i s).nvmLog = s.nvmLog ∧ (effect i s).draws = s.draws) ∨
    (s.params.nvmPresent = true ∧ isSetup i) ∨ (s.params.nvmPersist = true ∧ ∃ a, i = .setAddr a) := by
  cases i with
  | setup pin rep invert period =>
    cases hp : s.params.nvmPresent with
    | true => exact .inr (.inl ⟨rfl, _, _, _, _, rfl⟩)
    | false => exact .inl (by simp [effect, restoreAddress, setupRegisters, hp])
  | setAddr a =>
    cases hp : s.params.nvmPersist with
    | true => exact .inr (.inr ⟨rfl, a, rfl⟩)
    | false => exact .inl (by simp [effect, persistAddress, buildAddress, hp])
  | _ => exact .inl ⟨rfl, rfl, rfl⟩

/-- SETUP's restore reads storage and stores nothing (R59). -/
@[simp] theorem restoreAddress_nvm (s : State) : (restoreAddress s).nvm = s.nvm := by
  rw [restoreAddress_eq]

/-- What an accepted command writes keeps storage in canonical form: SET_ADDR alone stores, at 16-bit addresses (R53). -/
theorem effect_wf {s : State} (h : Memory.wf s.nvm) (i : Instr) : Memory.wf (effect i s).nvm := by
  cases i with
  | setup pin rep invert period =>
    rw [effect, restoreAddress_nvm]
    exact h
  | setAddr a => exact persistAddress_wf (s := buildAddress a s) h
  | _ => exact h

/-- A firing of the timer makes no storage access (R54). -/
theorem tickEvent_storage {s t : State} (h : tickEvent s = .next t) :
    t.nvm = s.nvm ∧ t.nvmLog = s.nvmLog ∧ t.draws = s.draws := by
  have hb := tickEvent_blankCursor h
  simp only [blankCursor, State.mk.injEq] at hb
  simp [hb]

/-- Settles O43: of the four things a step can be, an accepted SET_ADDR alone stores, and its writes keep the form. -/
theorem storageStaysCanonical : Obligations.StorageStaysCanonical := by
  intro s t hwf hstep
  have hs : Memory.wf (takeEvent s).nvm := hwf
  obtain ⟨c, rfl⟩ | ⟨i, -, -, rfl, -⟩ | ⟨-, he⟩ | ⟨-, rfl⟩ := step_cases hstep
  · exact hs
  · exact effect_wf hs i
  · obtain ⟨hnvm, -, -⟩ := tickEvent_storage he
    rwa [hnvm]
  · exact powerCycle_wf hs

/-- Settles O45: the two commands that access storage do so only with the parameter that is 0 here, and a reset keeps all
three. -/
theorem storageUntouchedWhenUnused : Obligations.StorageUntouchedWhenUnused := by
  intro s t hpresent hpersist hstep
  obtain ⟨c, rfl⟩ | ⟨i, -, -, rfl, -⟩ | ⟨-, he⟩ | ⟨-, rfl⟩ := step_cases hstep
  · exact ⟨rfl, rfl, rfl⟩
  · obtain hsame | ⟨hp, -⟩ | ⟨hp, -⟩ := effect_storage i (takeEvent s)
    · exact hsame
    · simp [hpresent] at hp
    · simp [hpersist] at hp
  · exact tickEvent_storage (s := takeEvent s) he
  · exact ⟨rfl, rfl, rfl⟩

end Sys2Proof.Machine

/-! ## Proofs: the decoder and the encoder (spec/30_encoding.md R70-R79) -/

namespace Sys2Proof

/-! ### The decoder, one equation per low byte (R71, R72, R78) -/

/-- `CMD[7:0]` is `CMD[7:4]` above `OP` (R71). -/
theorem header_of_lowByte {w : Cmd} {b : Byte} (h : w.extractLsb' 0 8 = b) :
    zField w = b.extractLsb' 4 4 ∧ opField w = b.extractLsb' 0 4 := by
  subst h
  constructor <;> ext k hk
  · simp [zField]
  · simp [opField]

theorem decode_setup {w : Cmd} (h : w.extractLsb' 0 8 = 1) :
    decode w = .ok (.setup (payload w 0) (payload w 1) (w.getLsbD 24) (w.extractLsb' 32 32)) := by
  simp [decode, header_of_lowByte h]

theorem decode_cfgTiming {w : Cmd} (h : w.extractLsb' 0 8 = 2) :
    decode w = .ok (.cfgTiming (payload w 0) (payload w 1) (payload w 2) (payload w 3)) := by
  simp [decode, header_of_lowByte h]

theorem decode_cfgGapmul {w : Cmd} (h : w.extractLsb' 0 8 = 3) : decode w = .ok (.cfgGapmul (w.extractLsb' 8 16)) := by
  simp [decode, header_of_lowByte h]

theorem decode_setAddr {w : Cmd} (h : w.extractLsb' 0 8 = 4) :
    decode w = .ok (.setAddr #v[payload w 0, payload w 1, payload w 2, payload w 3, payload w 4]) := by
  simp [decode, header_of_lowByte h]

theorem decode_sendRaw {w : Cmd} (h : w.extractLsb' 0 8 = 5) :
    decode w = .ok (.sendRaw #v[payload w 0, payload w 1, payload w 2, payload w 3, payload w 4,
      payload w 5, payload w 6, payload w 7, payload w 8, payload w 9]) := by
  simp [decode, header_of_lowByte h]

theorem decode_sendCmd {w : Cmd} (h : w.extractLsb' 0 8 = 6) :
    decode w = .ok (.sendCmd (payload w 0) (payload w 1) (payload w 2) (payload w 3)) := by
  simp [decode, header_of_lowByte h]

theorem decode_isReady {w : Cmd} (h : w.extractLsb' 0 8 = 7) : decode w = .ok .isReady := by
  simp [decode, header_of_lowByte h]

/-- A legal word has `CMD[7:4] = 0` and `OP` in 1..7 (R72, R78). -/
theorem legalWord_iff (w : Cmd) :
    legalWord w = true ↔ zField w = 0 ∧ 1 ≤ (opField w).toNat ∧ (opField w).toNat ≤ 7 := by
  simp only [legalWord, zField, opField, BitVec.toNat_eq, BitVec.extractLsb'_toNat, Nat.shiftRight_eq_div_pow,
    decide_eq_true_eq, BitVec.toNat_ofNat, BitVec.ofNat_eq_ofNat]
  omega

/-- A legal word has one of the seven low bytes (R72). -/
theorem lowByte_of_legalWord {w : Cmd} (h : legalWord w = true) :
    w.extractLsb' 0 8 = 1 ∨ w.extractLsb' 0 8 = 2 ∨ w.extractLsb' 0 8 = 3 ∨ w.extractLsb' 0 8 = 4 ∨
    w.extractLsb' 0 8 = 5 ∨ w.extractLsb' 0 8 = 6 ∨ w.extractLsb' 0 8 = 7 := by
  simp only [legalWord, decide_eq_true_eq] at h
  have hbyte : (w.extractLsb' 0 8).toNat = w.toNat % 256 := by simp [BitVec.extractLsb'_toNat]
  generalize w.extractLsb' 0 8 = b at hbyte
  bv_omega

/-- An illegal word spells no command (R78). -/
theorem decode_of_not_legalWord {w : Cmd} (h : ¬ legalWord w = true) : ∃ e, decode w = .error e := by
  rw [legalWord_iff] at h
  by_cases hz : zField w = 0
  · have hop : ¬ (1 ≤ (opField w).toNat ∧ (opField w).toNat ≤ 7) := fun hop => h ⟨hz, hop⟩
    refine ⟨.undefinedOpcode (opField w), ?_⟩
    rw [decode, if_neg (not_not.2 hz)]
    split
    case h_8 => rfl
    all_goals omega
  · exact ⟨.headerNotZero (zField w), if_pos hz⟩

/-! ### Fields of a word (R71, R73-R75) -/

/-- A field is read back from where it was placed. -/
@[simp] theorem extractLsb'_place_same {n lo : Nat} (v : BitVec n) (h : lo + n ≤ 128) :
    (place lo v).extractLsb' lo n = v := by
  apply BitVec.eq_of_getLsbD_eq
  intro k hk
  have hbit : lo + k < 128 := by omega
  simp only [BitVec.getLsbD_extractLsb', place_getLsbD, hk, hbit, Nat.le_add_right, decide_true, Bool.true_and,
    Nat.add_sub_cancel_left]

/-- A field does not reach the bits below and above it. -/
@[simp] theorem extractLsb'_place_disjoint {n lo a len : Nat} (v : BitVec n) (h : a + len ≤ lo ∨ lo + n ≤ a) :
    (place lo v).extractLsb' a len = 0 := by
  apply BitVec.eq_of_getLsbD_eq
  intro k hk
  by_cases hlo : lo ≤ a + k
  · simp [place_getLsbD, BitVec.getLsbD_of_ge v (a + k - lo) (by omega)]
  · simp [place_getLsbD, hlo]

/-- A bit of a placed field. -/
@[simp] theorem getElem_place {n : Nat} (lo : Nat) (v : BitVec n) (k : Nat) (hk : k < 128) :
    (place lo v)[k] = (decide (lo ≤ k) && v.getLsbD (k - lo)) := by
  rw [← BitVec.getLsbD_eq_getElem, place_getLsbD, decide_eq_true hk, Bool.true_and]

/-- A field read from a word and placed where it was is the word under the field's mask. -/
theorem place_extractLsb' (w : Cmd) (lo n : Nat) :
    place lo (w.extractLsb' lo n) = w &&& place lo (BitVec.allOnes n) := by
  apply BitVec.eq_of_getLsbD_eq
  intro k hk
  simp only [BitVec.getLsbD_and, place_getLsbD, BitVec.getLsbD_extractLsb', BitVec.getLsbD_allOnes, hk, decide_true,
    Bool.true_and]
  by_cases hlo : lo ≤ k
  · simp only [hlo, decide_true, Bool.true_and, Nat.add_sub_cancel' hlo, Bool.and_comm]
  · simp only [hlo, decide_false, Bool.false_and, Bool.and_false]

/-- A bit read as a field of width 1. -/
theorem ofBool_getLsbD (w : Cmd) (k : Nat) : BitVec.ofBool (w.getLsbD k) = w.extractLsb' k 1 := by
  apply BitVec.eq_of_getLsbD_eq
  intro j hj
  obtain rfl : j = 0 := by omega
  simp

/-! ### The words of the encoder (R71-R75, R79) -/

/-- The mask of the used bits covers the low byte, so clearing reserved bits keeps it (R71). -/
theorem lowByte_clearReserved (w : Cmd) : (clearReserved w).extractLsb' 0 8 = w.extractLsb' 0 8 := by
  have hmask : (usedBits (w.toNat % 16)).extractLsb' 0 8 = BitVec.allOnes 8 := by
    unfold usedBits
    split <;> decide
  rw [clearReserved, BitVec.extractLsb'_and, hmask, BitVec.and_allOnes]

/-- Whether a word is legal is not changed by clearing its reserved bits. -/
theorem legalWord_clearReserved (w : Cmd) : legalWord (clearReserved w) = legalWord w := by
  have hlow := congrArg BitVec.toNat (lowByte_clearReserved w)
  simp only [BitVec.extractLsb'_toNat, Nat.shiftRight_zero, Nat.reducePow] at hlow
  rw [legalWord, legalWord, hlow]

/-- The opcode of a word and the word under a mask of fields are the word with its reserved bits cleared, when the low
byte and that mask make up the used bits. -/
theorem opcode_or_fields {w fields : Cmd} {op : Byte} (h : w.extractLsb' 0 8 = op)
    (hused : 0xFF ||| fields = usedBits (op.toNat % 16)) : op.setWidth 128 ||| w &&& fields = clearReserved w := by
  have hop : w.toNat % 16 = op.toNat % 16 := by
    rw [← h, BitVec.extractLsb'_toNat, Nat.shiftRight_zero]
    omega
  calc op.setWidth 128 ||| w &&& fields
    _ = place 0 (w.extractLsb' 0 8) ||| w &&& fields := by rw [h, place, BitVec.shiftLeft_zero]
    _ = w &&& 0xFF ||| w &&& fields := by rw [place_extractLsb']; rfl
    _ = clearReserved w := by rw [← BitVec.and_or_distrib_left, hused, clearReserved, hop]

/-- A legal word spells a command whose word is the legal word with its reserved bits cleared: each field of the command
is the word under the field's mask, and the masks together are the used bits (R71-R75, R79). -/
theorem decode_of_legalWord {w : Cmd} (h : legalWord w = true) :
    ∃ i, decode w = .ok i ∧ encode i = clearReserved w := by
  obtain h | h | h | h | h | h | h := lowByte_of_legalWord h
  · refine ⟨_, decode_setup h, ?_⟩
    simp only [encode, payload, ofBool_getLsbD, place_extractLsb', BitVec.or_assoc, ← BitVec.and_or_distrib_left]
    exact opcode_or_fields h rfl
  · refine ⟨_, decode_cfgTiming h, ?_⟩
    simp only [encode, payload, place_extractLsb', BitVec.or_assoc, ← BitVec.and_or_distrib_left]
    exact opcode_or_fields h rfl
  · refine ⟨_, decode_cfgGapmul h, ?_⟩
    simp only [encode, place_extractLsb']
    exact opcode_or_fields h rfl
  · refine ⟨_, decode_setAddr h, ?_⟩
    simp only [encode, payload, Vector.getElem_mk, List.getElem_toArray, List.getElem_cons_zero, List.getElem_cons_succ,
      place_extractLsb', BitVec.or_assoc, ← BitVec.and_or_distrib_left]
    exact opcode_or_fields h rfl
  · refine ⟨_, decode_sendRaw h, ?_⟩
    simp only [encode, payload, Vector.getElem_mk, List.getElem_toArray, List.getElem_cons_zero, List.getElem_cons_succ,
      place_extractLsb', BitVec.or_assoc, ← BitVec.and_or_distrib_left]
    exact opcode_or_fields h rfl
  · refine ⟨_, decode_sendCmd h, ?_⟩
    simp only [encode, payload, place_extractLsb', BitVec.or_assoc, ← BitVec.and_or_distrib_left]
    exact opcode_or_fields h rfl
  · exact ⟨_, decode_isReady h, by simpa [encode] using opcode_or_fields (fields := 0) h rfl⟩

/-! ### Decoding the encoder's words (R71-R75) -/

/-- A vector of five bytes is the list of its elements. -/
theorem vector5_eta (a : Vector Byte 5) : #v[a[0], a[1], a[2], a[3], a[4]] = a := by
  ext i hi
  interval_cases i <;> rfl

/-- A vector of ten bytes is the list of its elements. -/
theorem vector10_eta (b : Vector Byte 10) : #v[b[0], b[1], b[2], b[3], b[4], b[5], b[6], b[7], b[8], b[9]] = b := by
  ext i hi
  interval_cases i <;> rfl

/-- The decoder reads every field of a command back from where the encoder places it, and no other field reaches there. -/
theorem decode_encode (i : Instr) : decode (encode i) = .ok i := by
  cases i with
  | setup pin rep invert period =>
    rw [decode_setup] <;> simp [encode, payload, BitVec.extractLsb'_or]
  | cfgTiming low high trail gap =>
    rw [decode_cfgTiming] <;> simp [encode, payload, BitVec.extractLsb'_or]
  | cfgGapmul n =>
    rw [decode_cfgGapmul] <;> simp [encode, BitVec.extractLsb'_or]
  | setAddr a =>
    rw [decode_setAddr] <;> simp [encode, payload, BitVec.extractLsb'_or, vector5_eta]
  | sendRaw b =>
    rw [decode_sendRaw] <;> simp [encode, payload, BitVec.extractLsb'_or, vector10_eta]
  | sendCmd command parameter room device =>
    rw [decode_sendCmd] <;> simp [encode, payload, BitVec.extractLsb'_or]
  | isReady => rfl

/-! ### The obligations on words -/

/-- Settles O1: every field is read back from where it was placed. -/
theorem decodeOfEncode : Obligations.DecodeOfEncode := decode_encode

/-- Settles O4: a legal word has one of the seven low bytes, and any other word ends in a decode error. -/
theorem decodesExactlyLegalWords : Obligations.DecodesExactlyLegalWords := by
  intro w
  constructor
  · rintro ⟨i, hi⟩
    by_contra hillegal
    obtain ⟨e, he⟩ := decode_of_not_legalWord hillegal
    simp [hi] at he
  · intro hlegal
    obtain ⟨i, hi, -⟩ := decode_of_legalWord hlegal
    exact ⟨i, hi⟩

/-- Settles O2: the word decodes, so it is legal, and the fields of its command are the word under the used bits. -/
theorem encodeOfDecode : Obligations.EncodeOfDecode := by
  intro w i hi
  obtain ⟨j, hj, henc⟩ := decode_of_legalWord ((decodesExactlyLegalWords w).1 ⟨i, hi⟩)
  obtain rfl : i = j := Except.ok.inj (hi.symm.trans hj)
  exact henc

/-- Settles O6: the decoder evaluated on the seven words. -/
theorem sampleWordsDecode : Obligations.SampleWordsDecode := by
  unfold Obligations.SampleWordsDecode
  decide

end Sys2Proof

namespace Sys2Proof.Machine

/-! ### The command port on words (R79, R103) -/

/-- An illegal word is answered ILLEGAL, with READY = NOT ACTIVE, and changes nothing else (R103). -/
theorem commandStep_of_not_legalWord {w : Cmd} (h : ¬ legalWord w = true) (s : State) :
    commandStep w s = .next { s with rsp := some (if s.active then 0x02 else 0x06) } := by
  obtain ⟨e, he⟩ := decode_of_not_legalWord h
  rw [commandStep_of_error he, respond, responseWord_eq]
  cases s.active <;> rfl

/-- Settles O3: a legal word and its cleared form spell the same command, since the cleared form is the encoder's word of
that command; an illegal word stays illegal. -/
theorem reservedBitsIgnored : Obligations.ReservedBitsIgnored := by
  intro w s
  by_cases hlegal : legalWord w = true
  · obtain ⟨i, hi, henc⟩ := decode_of_legalWord hlegal
    have hclear : decode (clearReserved w) = .ok i := henc ▸ decode_encode i
    rw [commandStep_of_decode hi, commandStep_of_decode hclear]
  · have hclear : ¬ legalWord (clearReserved w) = true := by rwa [legalWord_clearReserved]
    rw [commandStep_of_not_legalWord hlegal, commandStep_of_not_legalWord hclear]

/-- Settles O5: each of the three forms, and the zero word, is no legal word. -/
theorem illegalWordAnswered : Obligations.IllegalWordAnswered := by
  refine ⟨fun w s h => commandStep_of_not_legalWord ?_ s, commandStep_of_not_legalWord (by decide)⟩
  rw [legalWord_iff]
  rintro ⟨hz, hlow, hhigh⟩
  obtain hop | hop | hz' := h
  · simp [opField, hop] at hlow
  · exact absurd (hop.trans hhigh) (by decide)
  · exact hz' hz

end Sys2Proof.Machine

/-! ## Proofs: the Nibble Encoder (spec/40_nibble_encoder.md R90-R95) -/

namespace Sys2Proof.Machine

/-! ### The encoder (R91, R93) -/

/-- Masking a byte to four bits is taking it modulo 16 (R90). -/
theorem nibble_toNat (n : Byte) : (n &&& 0xF).toNat = n.toNat % 16 := by
  rw [BitVec.toNat_and]
  exact Nat.and_two_pow_sub_one_eq_mod n.toNat 4

theorem encodeNibble_eq (p : Params) (n : Byte) :
    encodeNibble p n = p.symbolTable[n.toNat % 16]'(Nat.mod_lt _ (by decide)) := by
  simp only [encodeNibble, nibble_toNat]

theorem encodeNibble_congr (p : Params) {m n : Byte} (h : m.toNat % 16 = n.toNat % 16) :
    encodeNibble p m = encodeNibble p n := by
  simp only [encodeNibble_eq, h]

/-- With distinct symbols a symbol stands at one index of the table only (R93). -/
theorem symbol_inj {t : Vector Byte 16} (ht : distinctSymbols t) {i j : Nat} (hi : i < 16) (hj : j < 16) :
    t[i] = t[j] ↔ i = j := by
  rw [← Vector.getElem_toList (by simpa using hi), ← Vector.getElem_toList (by simpa using hj)]
  exact ht.getElem_inj_iff

/-- Settles O27: the mask is the remainder modulo 16, and the table holds each symbol once. -/
theorem encoderLooksUpLowNibble : Obligations.EncoderLooksUpLowNibble := by
  refine ⟨fun p n => ?_, fun p m n ht => ?_⟩
  · rw [encodeNibble_eq, Vector.getElem?_eq_getElem]
  · rw [encodeNibble_eq, encodeNibble_eq, symbol_inj ht]

/-! ### The frames built from equal nibbles (R118, R123, R125) -/

theorem buildAddress_congr {a a' : Vector Byte 5} (s : State)
    (h : ∀ k : Fin 5, a[k].toNat % 16 = a'[k].toNat % 16) : buildAddress a s = buildAddress a' s := by
  have hv : (fun i : Fin 5 => encodeNibble s.params a[i]) = fun i => encodeNibble s.params a'[i] :=
    funext fun i => encodeNibble_congr s.params (h i)
  rw [buildAddress, hv, buildAddress]

/-- Only with `TRANSLATE = 1`: verbatim bytes keep their high nibble (R96, R116). -/
theorem buildRaw_congr {b b' : Vector Byte 10} {s : State} (htranslate : s.params.translate = true)
    (h : ∀ k : Fin 10, b[k].toNat % 16 = b'[k].toNat % 16) : buildRaw b s = buildRaw b' s := by
  refine congrArg (fun f => { s with buf := f }) (frame_ext fun j => ?_)
  have hj : translateRaw s.params b[j] = translateRaw s.params b'[j] := by
    simp only [translateRaw, htranslate, if_true, encodeNibble_congr s.params (h j)]
  exact (buildRaw_get b s j).trans (hj ▸ (buildRaw_get b' s j).symm)

theorem buildFields_congr {c r d c' r' d' : Byte} (p : Byte) (s : State) (hc : c.toNat % 16 = c'.toNat % 16)
    (hr : r.toNat % 16 = r'.toNat % 16) (hd : d.toNat % 16 = d'.toNat % 16) :
    buildFields c p r d s = buildFields c' p r' d' s := by
  simp only [buildFields, encodeNibble_congr s.params hc, encodeNibble_congr s.params hr,
    encodeNibble_congr s.params hd]

/-! ### The commands -/

/-- A guarded command depends on its body at the present state alone (R101). -/
theorem unlessBusy_congr {s : State} {body body' : State → Host.Outcome State Fault Refusal} (h : body s = body' s) :
    unlessBusy s body = unlessBusy s body' := by
  simp only [unlessBusy, h]

/-- An unarmed command depends on what it writes in the present state alone (R101). -/
theorem guardedWrite_congr {s : State} {write write' : State → State} (h : write s = write' s) :
    (unlessBusy s fun s => .next (respond .ok (write s))) = unlessBusy s fun s => .next (respond .ok (write' s)) :=
  unlessBusy_congr (by simp only [h])

/-- A send depends on the frame it builds in the present state alone (R101, R102, R121). -/
theorem guardedSend_congr {s : State} {build build' : State → State} (h : build s = build' s) :
    (unlessBusy s fun s => ifConfigured s fun s => armAndRespond (build s)) =
      unlessBusy s fun s => ifConfigured s fun s => armAndRespond (build' s) :=
  unlessBusy_congr (by simp only [ifConfigured, h])

/-- Settles O26: each of the three commands uses its operands only to build the frame, and the frame is the same. -/
theorem onlyLowNibblesMatter : Obligations.OnlyLowNibblesMatter := by
  refine ⟨fun a a' s h => ?_, fun b b' s htranslate h => ?_, fun c p r d c' r' d' s hc hr hd => ?_⟩
  · exact guardedWrite_congr (write := fun s => persistAddress (buildAddress a s))
      (write' := fun s => persistAddress (buildAddress a' s)) (congrArg persistAddress (buildAddress_congr s h))
  · exact guardedSend_congr (build := buildRaw b) (build' := buildRaw b') (buildRaw_congr htranslate h)
  · exact guardedSend_congr (build := buildFields c p r d) (build' := buildFields c' p r' d')
      (buildFields_congr p s hc hr hd)

/-! ### The default table (R92, R95) -/

/-- Settles O28: the sixteen symbols of R92, bit by bit. -/
theorem defaultTableProperties : Obligations.DefaultTableProperties := by
  unfold Obligations.DefaultTableProperties
  decide

end Sys2Proof.Machine

/-! ## Proofs: what each command answers and writes (spec/41_host_commands.md R100-R127) -/

namespace Sys2Proof

/-! ### The opcode of a command (R71, R72) -/

/-- `OP` of a command's word (R72). -/
def opcode : Instr → Nat
  | .setup .. => 1
  | .cfgTiming .. => 2
  | .cfgGapmul _ => 3
  | .setAddr _ => 4
  | .sendRaw _ => 5
  | .sendCmd .. => 6
  | .isReady => 7

theorem opField_toNat (w : Cmd) : (opField w).toNat = w.toNat % 16 := by
  simp [opField, BitVec.extractLsb'_toNat]

/-- The decoder chooses the command by `OP`. -/
theorem opcode_of_decode {w : Cmd} {i : Instr} (h : decode w = .ok i) : w.toNat % 16 = opcode i := by
  rw [← opField_toNat]
  unfold decode at h
  split at h
  · cases h
  · split at h <;> cases h <;> assumption

/-- A legal word spells a command whose opcode is the word's (R72, R78). -/
theorem command_of_legalWord {w : Cmd} (h : legalWord w = true) : ∃ i, decode w = .ok i ∧ w.toNat % 16 = opcode i := by
  obtain ⟨i, hi⟩ := (decodesExactlyLegalWords w).2 h
  exact ⟨i, hi, opcode_of_decode hi⟩

theorem eq_isReady_iff (i : Instr) : i = .isReady ↔ opcode i = 7 := by
  cases i <;> simp [opcode]

end Sys2Proof

namespace Sys2Proof.Machine

theorem isSend_iff (i : Instr) : isSend i ↔ opcode i = 5 ∨ opcode i = 6 := by
  cases i <;> simp [isSend, opcode]

/-! ### The guards (R101-R104) -/

/-- An answer with the response word worked out (R76). -/
theorem respond_eq {c : Code} {s : State} {r : Byte} (h : responseWord c s = r) :
    respond c s = { s with rsp := some r } := by rw [respond, h]

/-- The BUSY guard: with `ACTIVE = 1` every command but IS_READY only answers BUSY (R101). -/
theorem exec_busy {s : State} (ha : s.active = true) {i : Instr} (hi : i ≠ .isReady) :
    exec i s = .next { s with rsp := some 0x01 } := by
  rw [← respond_eq (c := .busy) (by simp [responseWord_eq, ha])]
  cases i with
  | isReady => exact absurd rfl hi
  | _ => simp only [exec, execSetup, execCfgTiming, execCfgGapmul, execSetAddr, execSendRaw, execSendCmd,
      unlessBusy_active ha]

/-- A send in an idle core is left to the UNCONFIGURED guard and the arm (R102, R121). -/
theorem exec_sendRaw_idle {s : State} (ha : s.active = false) (b : Vector Byte 10) :
    exec (.sendRaw b) s = ifConfigured s fun s => armAndRespond (buildRaw b s) := by
  rw [exec, execSendRaw, unlessBusy_idle ha]

theorem exec_sendCmd_idle {s : State} (ha : s.active = false) (c p r d : Byte) :
    exec (.sendCmd c p r d) s = ifConfigured s fun s => armAndRespond (buildFields c p r d s) := by
  rw [exec, execSendCmd, unlessBusy_idle ha]

/-- The UNCONFIGURED guard: before SETUP a send only answers UNCONFIGURED (R102). -/
theorem exec_unconfigured {s : State} (ha : s.active = false) (hc : s.configured = false) {i : Instr} (hi : isSend i) :
    exec i s = .next { s with rsp := some 0x07 } := by
  rw [← respond_eq (c := .unconfigured) (by simp [responseWord_eq, ha])]
  obtain ⟨b, rfl⟩ | ⟨c, p, r, d, rfl⟩ := hi
  · rw [exec_sendRaw_idle ha, ifConfigured_false hc]
  · rw [exec_sendCmd_idle ha, ifConfigured_false hc]

/-- A command that is no send is accepted by every idle core, and answers OK with READY (R100). -/
theorem exec_accepted {s : State} (ha : s.active = false) {i : Instr} (hi : ¬ isSend i) :
    exec i s = .next { effect i s with rsp := some 0x04 } := by
  have hidle : (effect i s).active = false := ((effect_active i s).resolve_right hi).trans ha
  rw [← respond_eq (c := .ok) (by simp [responseWord_eq, hidle])]
  cases i with
  | sendRaw b => exact absurd (.inl ⟨b, rfl⟩) hi
  | sendCmd c p r d => exact absurd (.inr ⟨c, p, r, d, rfl⟩) hi
  | isReady => rfl
  | _ => simp only [exec, execSetup, execCfgTiming, execCfgGapmul, execSetAddr, unlessBusy_idle ha, effect]

/-- IS_READY is never refused; `RSP[2]` is its answer (R127). -/
theorem exec_isReady (s : State) : exec .isReady s = .next { s with rsp := some (if s.active then 0x00 else 0x04) } := by
  rw [← respond_eq (c := .ok) (by cases ha : s.active <;> simp [responseWord_eq, ha])]
  rfl

/-! ### The arm (R121) -/

/-- The arm of a written frame answers OK without READY. -/
theorem armAndRespond_written {s : State} (h : frameWritten s = true) :
    armAndRespond s = .next { armed s with rsp := some 0x00 } := by
  rw [armAndRespond, if_pos h, respond_eq (r := 0x00) (by simp [responseWord_eq])]

theorem armAndRespond_unwritten {s : State} (h : ¬ frameWritten s = true) : armAndRespond s = .fault .unwrittenBuf := by
  rw [armAndRespond, if_neg h]

/-- A configured idle core always arms SEND_RAW's frame: the command writes all ten bytes (R123). -/
theorem exec_sendRaw_armed {s : State} (ha : s.active = false) (hc : s.configured = true) (b : Vector Byte 10) :
    exec (.sendRaw b) s = .next { armed (buildRaw b s) with rsp := some 0x00 } := by
  rw [exec_sendRaw_idle ha, ifConfigured_true hc, armAndRespond_written (buildRaw_frameWritten b s)]

/-- Every byte of `BUF[4..8]`, the address SEND_CMD keeps, has been written since reset (R125). -/
def addressWritten (s : State) : Prop := ∀ k : Fin 10, 4 ≤ k.val → k.val ≤ 8 → s.buf[k].written = true

theorem not_addressWritten_iff (s : State) :
    ¬ addressWritten s ↔ ∃ k : Fin 10, 4 ≤ k.val ∧ k.val ≤ 8 ∧ s.buf[k].written = false := by
  simp [addressWritten]

/-- SEND_CMD keeps `BUF[4..8]` (R125). -/
theorem buildFields_get_address (c p r d : Byte) (s : State) {k : Nat} (hk : k < 10) (h4 : 4 ≤ k) (h8 : k ≤ 8) :
    (buildFields c p r d s).buf[k] = s.buf[k] := by
  refine (buildFields_get c p r d s ⟨k, hk⟩).trans ?_
  interval_cases k <;> rfl

/-- SEND_CMD writes positions 0..3 and 9 (R125). -/
theorem buildFields_written_other (c p r d : Byte) (s : State) {k : Fin 10} (hk : ¬ (4 ≤ k.val ∧ k.val ≤ 8)) :
    (buildFields c p r d s).buf[k].written = true := by
  rw [buildFields_get]
  fin_cases k <;> simp at hk ⊢

/-- So SEND_CMD's frame is written when the address is (R121, R125). -/
theorem buildFields_frameWritten_iff (c p r d : Byte) (s : State) :
    frameWritten (buildFields c p r d s) = true ↔ addressWritten s := by
  have hkept (k : Fin 10) (h4 : 4 ≤ k.val) (h8 : k.val ≤ 8) : (buildFields c p r d s).buf[k] = s.buf[k] :=
    buildFields_get_address c p r d s k.isLt h4 h8
  rw [frameWritten_iff]
  refine ⟨fun h k h4 h8 => hkept k h4 h8 ▸ h k, fun h k => ?_⟩
  by_cases hk : 4 ≤ k.val ∧ k.val ≤ 8
  · rw [hkept k hk.1 hk.2]
    exact h k hk.1 hk.2
  · exact buildFields_written_other c p r d s hk

theorem exec_sendCmd_armed {s : State} (ha : s.active = false) (hc : s.configured = true) (hw : addressWritten s)
    (c p r d : Byte) :
    exec (.sendCmd c p r d) s = .next { armed (buildFields c p r d s) with rsp := some 0x00 } := by
  rw [exec_sendCmd_idle ha, ifConfigured_true hc,
    armAndRespond_written ((buildFields_frameWritten_iff c p r d s).2 hw)]

theorem exec_sendCmd_unwritten {s : State} (ha : s.active = false) (hc : s.configured = true) (hw : ¬ addressWritten s)
    (c p r d : Byte) : exec (.sendCmd c p r d) s = .fault .unwrittenBuf := by
  rw [exec_sendCmd_idle ha, ifConfigured_true hc,
    armAndRespond_unwritten (mt (buildFields_frameWritten_iff c p r d s).1 hw)]

/-! ### The address in the frame and in storage (R53, R118, R119) -/

/-- An address placed in the frame leaves `BUF[0..3]` and `BUF[9]` (R51). -/
theorem putAddress_get_other (v : Fin 5 → Byte) (f : Vector BufByte 10) {k : Nat} (hk : k < 10) (hother : k < 4 ∨ 8 < k) :
    (putAddress v f)[k] = f[k] :=
  (putAddress_get v f ⟨k, hk⟩).trans (dif_neg (by simp; omega))

theorem buildAddress_get_addrPos (a : Vector Byte 5) (s : State) (i : Fin 5) :
    (buildAddress a s).buf[addrPos i] = ⟨encodeNibble s.params a[i], true⟩ := by
  have hi : 4 ≤ (addrPos i).val ∧ (addrPos i).val ≤ 8 := by
    simp only [addrPos]
    omega
  rw [buildAddress, putAddress_get, dif_pos hi]
  simp [addrPos]

/-- With persistence SET_ADDR stores the five bytes it has just encoded (R119). -/
theorem persistAddress_buildAddress {s : State} (hp : s.params.nvmPersist = true) (a : Vector Byte 5) :
    persistAddress (buildAddress a s) =
      memWriteAddress (fun i => encodeNibble s.params a[i]) (buildAddress a s) := by
  rw [persistAddress, buildAddress_params, if_pos hp]
  simp only [buildAddress_get_addrPos]

/-- Without persistence SET_ADDR stores nothing (R119). -/
theorem persistAddress_of_not_persist {s : State} (hp : s.params.nvmPersist = false) : persistAddress s = s := by
  simp [persistAddress, hp]

/-- Without storage SETUP restores nothing (R108). -/
theorem restoreAddress_of_not_present {s : State} (hp : s.params.nvmPresent = false) : restoreAddress s = s := by
  simp [restoreAddress, hp]

/-- A series of writes leaves every other address as it was. -/
theorem read_foldl_write_other {ι : Type} (l : List ι) (addr : ι → Nat) (v : ι → Byte) (m : List Host.Cell) {x : Nat}
    (hx : ∀ i, x ≠ addr i) :
    Memory.read (l.foldl (fun m i => Memory.write m (addr i) (v i)) m) x = Memory.read m x := by
  induction l generalizing m with
  | nil => rfl
  | cons j l ih => rw [List.foldl_cons, ih, read_write_other m _ (hx j)]

/-- A series of writes to different addresses leaves at each its byte. -/
theorem read_foldl_write_mem {ι : Type} {l : List ι} {addr : ι → Nat} (hinj : Function.Injective addr) (v : ι → Byte)
    (m : List Host.Cell) {i : ι} (hi : i ∈ l) :
    Memory.read (l.foldl (fun m i => Memory.write m (addr i) (v i)) m) (addr i) = some (v i) := by
  induction l using List.reverseRecOn with
  | nil => cases hi
  | append_singleton l j ih =>
    rw [List.foldl_append, List.foldl_cons, List.foldl_nil]
    by_cases hij : i = j
    · rw [hij, read_write_same]
    · rw [read_write_other _ _ fun h => hij (hinj h), ih (by simpa [hij] using hi)]

theorem mem_addrIndices (i : Fin 5) : i ∈ addrIndices := by
  fin_cases i <;> decide

/-- The five storage writes reach their five addresses, also where these wrap past `2^16` (R53). -/
theorem read_memWriteAddress_same (v : Fin 5 → Byte) (s : State) (i : Fin 5) :
    Memory.read (memWriteAddress v s).nvm (nvAddr s.params i).toNat = some (v i) :=
  read_foldl_write_mem (addr := fun i => (nvAddr s.params i).toNat) (fun _ _ => nvAddr_injective s.params) v s.nvm
    (mem_addrIndices i)

theorem read_memWriteAddress_other (v : Fin 5 → Byte) (s : State) {x : Nat}
    (hx : ∀ i : Fin 5, x ≠ (nvAddr s.params i).toNat) :
    Memory.read (memWriteAddress v s).nvm x = Memory.read s.nvm x :=
  read_foldl_write_other addrIndices (fun i => (nvAddr s.params i).toNat) v s.nvm hx

/-- SET_ADDR's persistence, enabled or not, leaves storage beside the five addresses (R119). -/
theorem read_persistAddress_other (s : State) {x : Nat} (hx : ∀ i : Fin 5, x ≠ (nvAddr s.params i).toNat) :
    Memory.read (persistAddress s).nvm x = Memory.read s.nvm x := by
  unfold persistAddress
  split
  · exact read_memWriteAddress_other _ s hx
  · rfl

/-- Settles O15: the five addresses differ, so each keeps the byte written to it. -/
theorem setAddrStoresEncodedBytes : Obligations.SetAddrStoresEncodedBytes := by
  intro a s ha hp
  refine ⟨_, exec_accepted ha (by simp [isSend]), fun i => ?_, fun x hx => ?_⟩
  · rw [effect, persistAddress_buildAddress hp]
    exact read_memWriteAddress_same (fun i => encodeNibble s.params a[i]) (buildAddress a s) i
  · exact read_persistAddress_other (buildAddress a s) hx

/-- Settles O22: the word's opcode says which guard its command stands behind. -/
theorem guardOrder : Obligations.GuardOrder := by
  intro w s
  refine ⟨fun hlegal => ?_, fun hlegal ha hop => ?_, fun hlegal ha hc hop => ?_, fun hlegal _ _ => ?_⟩
  · exact commandStep_of_not_legalWord (by simp [hlegal]) s
  all_goals obtain ⟨i, hi, hopcode⟩ := command_of_legalWord hlegal
  · rw [commandStep_of_decode hi]
    exact exec_busy ha (mt (eq_isReady_iff i).1 (hopcode ▸ hop))
  · rw [commandStep_of_decode hi]
    exact exec_unconfigured ha hc ((isSend_iff i).2 (hopcode ▸ hop))
  · exact ⟨i, hi, commandStep_of_decode hi s⟩

/-! ### What can stop a step (R121, R163, R182) -/

/-- A command goes on, but for a SEND_CMD of a configured idle core without an address (R121). -/
theorem exec_total (i : Instr) (s : State) :
    (∃ t, exec i s = .next t) ∨
    (exec i s = .fault .unwrittenBuf ∧ s.active = false ∧ s.configured = true ∧ (∃ c p r d, i = .sendCmd c p r d) ∧
      ¬ addressWritten s) := by
  cases ha : s.active with
  | true =>
    obtain h | h := exec_active ha i
    · exact .inl ⟨_, h⟩
    · exact .inl ⟨_, h⟩
  | false =>
    by_cases hi : isSend i
    · cases hc : s.configured with
      | false => exact .inl ⟨_, exec_unconfigured ha hc hi⟩
      | true =>
        obtain ⟨b, rfl⟩ | ⟨c, p, r, d, rfl⟩ := hi
        · exact .inl ⟨_, exec_sendRaw_armed ha hc b⟩
        · by_cases hw : addressWritten s
          · exact .inl ⟨_, exec_sendCmd_armed ha hc hw c p r d⟩
          · exact .inr ⟨exec_sendCmd_unwritten ha hc hw c p r d, rfl, rfl, ⟨c, p, r, d, rfl⟩, hw⟩
    · exact .inl ⟨_, exec_accepted ha hi⟩

/-- A zero event of a state with the invariant goes on: `send_byte` reads a byte of the frame (R163), and the unused code is
not held (R152). -/
theorem zeroEvent_total {s : State} (h : Inv s) : ∃ t, zeroEvent s = .next t := by
  obtain ⟨-, -, ⟨hused, -, hsend, -⟩, -⟩ := h
  cases hf : s.framing with
  | idle => exact ⟨_, zeroEvent_idle hf⟩
  | msgStart => exact ⟨_, zeroEvent_msgStart hf⟩
  | byteStart => exact ⟨_, zeroEvent_byteStart hf⟩
  | sendByte =>
    rw [zeroEvent_sendByte hf]
    exact ⟨_, zeroSendByte_eq (s := reloadToggle s) (hsend hf).1⟩
  | msgEnd => exact ⟨_, zeroEvent_msgEnd hf⟩
  | gapStart => exact ⟨_, zeroEvent_gapStart hf⟩
  | gapEnd => exact ⟨_, zeroEvent_gapEnd hf⟩
  | unused7 => exact absurd hf hused

theorem tickEvent_total {s : State} (h : Inv s) : ∃ t, tickEvent s = .next t := by
  have ⟨_, _, ⟨hused, _⟩, _⟩ := h
  cases hen : s.timerEn with
  | false => exact ⟨s, tickEvent_stopped hen⟩
  | true =>
    rw [tickEvent_running hen]
    by_cases ht : s.toggle = 1
    · rw [tickStep_zero hused ht]
      exact zeroEvent_total (inv_trailingEvent (s := decToggle s) h)
    · exact ⟨_, tickStep_quiet hused ht⟩

/-- Settles O42, by the next event: the invariant rules out the stops of a tick, and a command has one stop. -/
theorem onlyAnUnwrittenSendStops : Obligations.OnlyAnUnwrittenSendStops := by
  intro s h
  have hs : Inv (takeEvent s) := h
  match hin : s.inputs with
  | [] =>
    rw [step_of_nil hin]
    exact .inl (tickEvent_total hs)
  | .tick :: rest =>
    rw [step_of_cons hin]
    exact .inl (tickEvent_total hs)
  | .reset :: rest =>
    rw [step_of_cons hin]
    exact .inl ⟨_, rfl⟩
  | .command w :: rest =>
    rw [step_of_cons hin, deliver]
    cases hw : decode w with
    | error e => exact .inl ⟨_, commandStep_of_error hw _⟩
    | ok i =>
      rw [commandStep_of_decode hw]
      refine (exec_total i (takeEvent s)).imp_right ?_
      rintro ⟨hstop, ha, hc, ⟨c, p, r, d, rfl⟩, haddr⟩
      exact ⟨hstop, ha, hc, ⟨c, p, r, d, w, rest, hin, hw⟩, (not_addressWritten_iff _).1 haddr⟩

/-! ### The configuring commands (R105-R113, R118-R119) -/

/-- Settles O10: an idle core without storage writes SETUP's registers and the pin alone. -/
theorem setupEffect : Obligations.SetupEffect := by
  intro pin rep invert period s ha hp
  rw [exec_accepted ha (by simp [isSend]), effect, restoreAddress_of_not_present (by simpa using hp)]
  rfl

/-- Settles O11: the restore places the five bytes drawn, after SETUP's registers and the pin. -/
theorem setupRestoresAddress : Obligations.SetupRestoresAddress := by
  intro pin rep invert period s ha hp a d
  rw [exec_accepted ha (by simp [isSend]), effect, restoreAddress, if_pos (by simpa using hp), putAddress_literal]
  rfl

/-- Settles O12: the payload bytes are the fields of R74, and the command stands behind the BUSY guard alone. -/
theorem cfgTimingEffect : Obligations.CfgTimingEffect :=
  ⟨fun _ hw => decode_cfgTiming hw, fun _ _ _ _ _ =>
    ⟨fun ha => exec_accepted ha (by simp [isSend]), fun ha => exec_busy ha (by simp)⟩⟩

/-- Settles O13: as CFG_TIMING, with the one field of R74. -/
theorem cfgGapmulEffect : Obligations.CfgGapmulEffect :=
  ⟨fun _ hw => decode_cfgGapmul hw, fun _ _ =>
    ⟨fun ha => exec_accepted ha (by simp [isSend]), fun ha => exec_busy ha (by simp)⟩⟩

/-- Settles O14: with and without persistence. -/
theorem setAddrEffect : Obligations.SetAddrEffect := by
  intro a s ha e x
  rw [exec_accepted ha (by simp [isSend]), effect]
  cases hp : s.params.nvmPersist with
  | true =>
    rw [persistAddress_buildAddress hp, buildAddress, putAddress_literal]
    rfl
  | false =>
    rw [persistAddress_of_not_persist (s := buildAddress a s) hp, buildAddress, putAddress_literal]
    rfl

/-! ### The sends and the query (R116, R121-R127) -/

/-- Settles O16: SEND_RAW's frame, then the arm. -/
theorem sendRawEffect : Obligations.SendRawEffect := by
  intro b s ha hc v
  rw [exec_sendRaw_armed ha hc, buildRaw_literal]
  rfl

/-- Settles O17: SEND_CMD's frame, then the arm. -/
theorem sendCmdEffect : Obligations.SendCmdEffect := by
  intro c p r d s ha hc hw e
  rw [exec_sendCmd_armed ha hc hw, buildFields_literal]
  rfl

/-- Settles O18: the frame SEND_CMD builds keeps the unwritten byte. -/
theorem sendCmdStopsOnUnwrittenAddress : Obligations.SendCmdStopsOnUnwrittenAddress :=
  fun c p r d s ha hc hw => exec_sendCmd_unwritten ha hc ((not_addressWritten_iff s).2 hw) c p r d

/-- Settles O19: IS_READY stands behind no guard. -/
theorem isReadyEffect : Obligations.IsReadyEffect := ⟨fun _ => decode_isReady, exec_isReady⟩

/-! ### The guards, command by command (R101, R102) -/

/-- Settles O20: the six commands stand behind the BUSY guard, IS_READY does not. -/
theorem busyGuard : Obligations.BusyGuard :=
  fun s ha => ⟨fun _ => exec_busy ha, by rw [exec_isReady, if_pos ha]⟩

/-- Settles O21: a command other than the two sends has no second guard. -/
theorem unconfiguredGuard : Obligations.UnconfiguredGuard := by
  intro s ha hc
  refine ⟨fun b => exec_unconfigured ha hc (.inl ⟨b, rfl⟩),
    fun c p r d => exec_unconfigured ha hc (.inr ⟨c, p, r, d, rfl⟩), fun i hraw hcmd => ?_⟩
  have hi : ¬ isSend i := by
    rintro (⟨b, rfl⟩ | ⟨c, p, r, d, rfl⟩)
    · exact hraw b rfl
    · exact hcmd c p r d rfl
  exact ⟨_, exec_accepted ha hi, rfl⟩

/-! ### Frames (R105-R127) -/

/-- SEND_RAW's building writes the frame alone (R123). -/
theorem buildRaw_eq (b : Vector Byte 10) (s : State) : buildRaw b s = { s with buf := (buildRaw b s).buf } := rfl

/-- SEND_CMD's building writes the frame alone (R125). -/
theorem buildFields_eq (c p r d : Byte) (s : State) :
    buildFields c p r d s = { s with buf := (buildFields c p r d s).buf } := rfl

/-- Settles O23: an answer alone keeps everything, and SETUP's restore is the one write to the frame, beside positions 0..3
and 9. -/
theorem frameOfConfiguring : Obligations.FrameOfConfiguring := by
  intro s t
  refine ⟨fun pin rep invert period h => ?_, fun low high trail gap h => ?_, fun n h => ?_⟩
  · obtain ⟨c, rfl⟩ | ⟨-, rfl, -⟩ := exec_next h
    · simp [sameCursor]
    · cases hp : s.params.nvmPresent with
      | false => simp [effect, restoreAddress_of_not_present, setupRegisters, sameCursor, hp]
      | true => simp +contextual [effect, restoreAddress, setupRegisters, sameCursor, hp, putAddress_get_other]
  · obtain ⟨c, rfl⟩ | ⟨-, rfl, -⟩ := exec_next h <;> simp [effect, sameCursor, sameStorage]
  · obtain ⟨c, rfl⟩ | ⟨-, rfl, -⟩ := exec_next h <;> simp [effect, sameCursor, sameStorage]

/-- Settles O24: an accepted SET_ADDR writes the frame, beside positions 0..3 and 9, and what its persistence writes. -/
theorem frameOfSetAddr : Obligations.FrameOfSetAddr := by
  intro a s t h
  obtain ⟨c, rfl⟩ | ⟨-, rfl, -⟩ := exec_next h
  · simp [sameConfig, sameCursor, sameStorage]
  · have hother (x : Nat) : (∀ i : Fin 5, x ≠ (nvAddr s.params i).toNat) →
        Memory.read (persistAddress (buildAddress a s)).nvm x = Memory.read s.nvm x :=
      read_persistAddress_other (buildAddress a s)
    have hkept (hp : s.params.nvmPersist = false) : (persistAddress (buildAddress a s)).nvm = s.nvm ∧
        (persistAddress (buildAddress a s)).nvmLog = s.nvmLog := by
      rw [persistAddress_of_not_persist (s := buildAddress a s) hp]
      exact ⟨rfl, rfl⟩
    rw [effect, persistAddress_eq]
    generalize persistAddress (buildAddress a s) = stored at hother hkept
    simp +contextual [buildAddress, sameConfig, sameCursor, sameStorage, putAddress_get_other, hother, hkept]

/-- Settles O25: an accepted send writes the frame and arms, and SEND_CMD keeps the address in the frame. -/
theorem frameOfSendingAndQuery : Obligations.FrameOfSendingAndQuery := by
  intro s t
  refine ⟨fun b h => ?_, fun c p r d h => ?_, fun h => ?_⟩
  · obtain ⟨c, rfl⟩ | ⟨-, rfl, -⟩ := exec_next h
    · simp [sameConfig, sameStorage]
    · rw [effect, buildRaw_eq]
      simp [sameConfig, sameStorage]
  · obtain ⟨c, rfl⟩ | ⟨-, rfl, -⟩ := exec_next h
    · simp [sameConfig, sameStorage]
    · rw [effect, buildFields_eq]
      simp +contextual [sameConfig, sameStorage, buildFields_get_address]
  · rw [eq_of_next h, respond]

end Sys2Proof.Machine

/-! ## Proofs: one tick step (spec/42_tick_sequencer.md R140-R152) -/

namespace Sys2Proof.Machine

/-- Settles O8: a tick event is a firing of the timer, and so is the step of a silent environment. -/
theorem stepDeliversTicks : Obligations.StepDeliversTicks := by
  refine ⟨fun s rest hin => ?_, fun s hin => ?_⟩
  · rw [step_of_cons hin, takeEvent_of_cons hin]
    rfl
  · rw [step_of_nil hin, takeEvent_of_nil hin]
    rfl

/-- Settles O29: the decrement and the trailing event, as one record update. -/
theorem quietTick : Obligations.QuietTick := by
  intro s hf ht
  rw [tickStep_quiet hf ht, trailingEvent_eq]
  rfl

/-! ### The state a zero event meets (R142-R144) -/

/-- The pin when the counter has run down: the trailing event falls within the `eff(TOGGLE)` ticks when `T < eff(TOGGLE)`. -/
def pinAtZero (s : State) : Level := if s.cfgTrail.toNat < eff s.toggle then offLevel s else s.txOut

/-- The state with its counter run down, as the arm of its framing state meets it. -/
def expire (s : State) : State := { s with toggle := 0, txOut := pinAtZero s }

@[simp] theorem blankCursor_expire (s : State) : blankCursor (expire s) = blankCursor s := rfl

/-- On a counter of 1 the trailing event falls in the tick itself, with `CFG_TRAIL = 0`. -/
theorem pinAtZero_of_toggle_one {s : State} (h : s.toggle = 1) : pinAtZero s = pinAfterTrailing s := by
  have heff : eff s.toggle = 1 := by rw [h]; rfl
  have hzero : s.cfgTrail.toNat < 1 ↔ s.cfgTrail = 0 := by bv_omega
  simp only [pinAtZero, pinAfterTrailing, heff, hzero]

/-- A tick step on a counter of 1 runs the counter down and is the zero event (R141, R144). -/
theorem tickStep_expire {s : State} (hf : s.framing ≠ .unused7) (ht : s.toggle = 1) :
    tickStep s = zeroEvent (expire s) := by
  have hdec : decToggle s = { s with toggle := 0 } := by rw [decToggle, ht]; rfl
  rw [tickStep_zero hf ht, hdec, trailingEvent_eq, expire, pinAtZero_of_toggle_one ht, pinAfterTrailing]
  simp only [eq_comm (a := s.cfgTrail)]
  rfl

/-! ### The zero event of each framing state, as one record update (R145-R151) -/

theorem zeroEvent_expire_idle {s : State} (h : s.framing = .idle) :
    zeroEvent (expire s) = .next { s with
      toggle := s.cfgHigh
      txOut := pinAtZero s
      repCnt := if s.active then 0 else s.repCnt
      framing := if s.active then .msgStart else .idle } := by
  rw [zeroEvent_idle (s := expire s) h, zeroIdle_eq, ← h]
  rfl

theorem zeroEvent_expire_msgStart {s : State} (h : s.framing = .msgStart) :
    zeroEvent (expire s) = .next { s with
      toggle := s.cfgHigh, txOut := onLevel s, byteIdx := 0, framing := .byteStart } :=
  zeroEvent_msgStart (s := expire s) h

theorem zeroEvent_expire_byteStart {s : State} (h : s.framing = .byteStart) :
    zeroEvent (expire s) = .next { s with
      toggle := s.cfgHigh, txOut := onLevel s, bitMask := 0x80, framing := .sendByte } :=
  zeroEvent_byteStart (s := expire s) h

theorem zeroEvent_expire_sendByte {s : State} (h : s.framing = .sendByte) (hi : s.byteIdx.toNat < 10) :
    zeroEvent (expire s) = .next { s with
      toggle := if bitTested s hi then s.cfgHigh else s.cfgLow
      txOut := if bitTested s hi then onLevel s else pinAtZero s
      bitMask := s.bitMask >>> 1
      byteIdx := if s.bitMask >>> 1 = 0 then s.byteIdx + 1 else s.byteIdx
      framing := if s.bitMask >>> 1 = 0 then (if s.byteIdx = 9 then .msgEnd else .byteStart) else .sendByte } := by
  have hlast : 10 ≤ (s.byteIdx + 1).toNat ↔ s.byteIdx = 9 := by bv_omega
  rw [zeroEvent_sendByte (s := expire s) h, zeroSendByte_eq (s := reloadToggle (expire s)) hi, advanceBit_eq, sendBit_eq,
    ← h]
  simp only [← hlast]
  rfl

/-- No rule says which byte a `BYTE_IDX` of 10 or more reads (log entry 6). -/
theorem zeroEvent_expire_overrun {s : State} (h : s.framing = .sendByte) (hi : ¬ s.byteIdx.toNat < 10) :
    zeroEvent (expire s) = .fault .frameOverrun :=
  (zeroEvent_sendByte (s := expire s) h).trans (dif_neg hi)

theorem zeroEvent_expire_msgEnd {s : State} (h : s.framing = .msgEnd) :
    zeroEvent (expire s) = .next { s with
      toggle := s.cfgHigh, txOut := onLevel s, gapRep := s.cfgGapmul, framing := .gapStart } :=
  zeroEvent_msgEnd (s := expire s) h

theorem zeroEvent_expire_gapStart {s : State} (h : s.framing = .gapStart) :
    zeroEvent (expire s) = .next { s with
      toggle := s.cfgGap
      txOut := pinAtZero s
      gapRep := if s.gapRep = 0 then 0 else s.gapRep - 1
      framing := if s.gapRep = 0 then .gapEnd else .gapStart } := by
  rw [zeroEvent_gapStart (s := expire s) h, zeroGapStart_eq, ← h]
  by_cases hm : s.gapRep = 0
  · simp only [expire, reloadToggle, hm, if_true]
  · simp only [expire, reloadToggle, hm, if_false]

/-- The state with the counter reloaded after its trailing event, as `gap_end` counts the repetition in it (R143, R151). -/
def beforeCount (s : State) : State := { s with toggle := s.cfgHigh, txOut := pinAtZero s }

theorem zeroEvent_expire_gapEnd {s : State} (h : s.framing = .gapEnd) :
    zeroEvent (expire s) = .next (zeroGapEnd (beforeCount s)) :=
  zeroEvent_gapEnd (s := expire s) h

/-! ### The tick step on a counter of 1 (R143-R151) -/

/-- Settles O30, on the counter of 1. -/
theorem zeroEventIdle : Obligations.ZeroEventIdle := by
  intro s hf ht
  rw [tickStep_expire (by simp [hf]) ht, zeroEvent_expire_idle hf, pinAtZero_of_toggle_one ht]

/-- Settles O31: the drive comes after the trailing event, so the pin before it does not matter. -/
theorem zeroEventMsgStart : Obligations.ZeroEventMsgStart :=
  fun _ hf ht => (tickStep_expire (by simp [hf]) ht).trans (zeroEvent_expire_msgStart hf)

/-- Settles O32, as O31. -/
theorem zeroEventByteStart : Obligations.ZeroEventByteStart :=
  fun _ hf ht => (tickStep_expire (by simp [hf]) ht).trans (zeroEvent_expire_byteStart hf)

/-- Settles O33: the tenth byte is the one after which `BYTE_IDX` reaches 10. -/
theorem zeroEventSendByte : Obligations.ZeroEventSendByte := by
  intro s hi hf ht
  rw [tickStep_expire (by simp [hf]) ht, zeroEvent_expire_sendByte hf hi, pinAtZero_of_toggle_one ht]

/-- Settles O34, as O31. -/
theorem zeroEventMsgEnd : Obligations.ZeroEventMsgEnd :=
  fun _ hf ht => (tickStep_expire (by simp [hf]) ht).trans (zeroEvent_expire_msgEnd hf)

/-- Settles O35, on the counter of 1. -/
theorem zeroEventGapStart : Obligations.ZeroEventGapStart := by
  intro s hf ht
  rw [tickStep_expire (by simp [hf]) ht, zeroEvent_expire_gapStart hf, pinAtZero_of_toggle_one ht]

/-- Settles O36: at the limit and below it. -/
theorem zeroEventGapEnd : Obligations.ZeroEventGapEnd := by
  intro s hf ht
  rw [tickStep_expire (by simp [hf]) ht, zeroEvent_expire_gapEnd hf, ← pinAtZero_of_toggle_one ht]
  exact ⟨fun hl => by rw [zeroGapEnd_last (s := beforeCount s) hl]; rfl,
    fun hl => by rw [zeroGapEnd_again (s := beforeCount s) (not_le.mpr hl)]; rfl⟩

/-! ### What every tick step keeps, and when it stops (R152, R163, R182) -/

theorem tickStep_unused7 {s : State} (h : s.framing = .unused7) : tickStep s = .fault .badState := if_pos h

/-- A tick step on an unused code does not go on; every other one is quiet or a zero event. -/
theorem tickStep_blankCursor {s t : State} (h : tickStep s = .next t) : blankCursor t = blankCursor s := by
  have hf : s.framing ≠ .unused7 := fun hf => by simp [tickStep_unused7 hf] at h
  by_cases ht : s.toggle = 1
  · rw [tickStep_expire hf ht] at h
    simpa using zeroEvent_blankCursor h
  · rw [tickStep_quiet hf ht] at h
    simp [eq_of_next h]

/-- Settles O37: the fields named are those of the blanked state. -/
theorem frameOfTick : Obligations.FrameOfTick := by
  intro s t h
  have hb := tickStep_blankCursor h
  simp only [blankCursor, State.mk.injEq] at hb
  simp [sameConfig, sameStorage, hb]

/-- A `send_byte` zero event with `BYTE_IDX` outside the frame (log entry 6). -/
def overrunDue (s : State) : Prop := s.framing = .sendByte ∧ s.toggle = 1 ∧ 10 ≤ s.byteIdx.toNat

theorem tickStep_overrun {s : State} (h : overrunDue s) : tickStep s = .fault .frameOverrun := by
  obtain ⟨hf, ht, hi⟩ := h
  rw [tickStep_expire (by simp [hf]) ht, zeroEvent_expire_overrun hf (not_lt.mpr hi)]

/-- Otherwise a tick step goes on. -/
theorem tickStep_total {s : State} (hf : s.framing ≠ .unused7) (ho : ¬ overrunDue s) : ∃ t, tickStep s = .next t := by
  by_cases ht : s.toggle = 1
  · rw [tickStep_expire hf ht]
    cases hs : s.framing with
    | idle => exact ⟨_, zeroEvent_expire_idle hs⟩
    | msgStart => exact ⟨_, zeroEvent_expire_msgStart hs⟩
    | byteStart => exact ⟨_, zeroEvent_expire_byteStart hs⟩
    | sendByte => exact ⟨_, zeroEvent_expire_sendByte hs (not_le.mp fun hi => ho ⟨hs, ht, hi⟩)⟩
    | msgEnd => exact ⟨_, zeroEvent_expire_msgEnd hs⟩
    | gapStart => exact ⟨_, zeroEvent_expire_gapStart hs⟩
    | gapEnd => exact ⟨_, zeroEvent_expire_gapEnd hs⟩
    | unused7 => exact absurd hs hf
  · exact ⟨_, tickStep_quiet hf ht⟩

/-- Settles O38: the two stops, which exclude each other, and every other tick step goes on. -/
theorem tickStopsOnlyByName : Obligations.TickStopsOnlyByName := by
  intro s
  by_cases hf : s.framing = .unused7
  · simp [tickStep_unused7 hf, hf, eq_comm]
  by_cases ho : overrunDue s
  · have ⟨hs, ht, hi⟩ := ho
    simp [tickStep_overrun ho, hs, ht, hi, eq_comm]
  · obtain ⟨t, ht⟩ := tickStep_total hf ho
    simp only [overrunDue, not_and] at ho
    simpa [ht, hf] using fun _ hs htog hi => absurd hi (ho hs htog)

end Sys2Proof.Machine

/-! ## Proofs: runs of ticks and symbol periods (spec/42_tick_sequencer.md R154-R157, R161) -/

namespace Sys2Proof.Machine

/-! ### Runs of ticks -/

theorem tickRun_one (s : State) : tickRun 1 s = tickEvent s := by
  rw [tickRun]
  cases tickEvent s <;> rfl

theorem tickRun_add {m : Nat} {s t : State} (h : tickRun m s = .next t) (n : Nat) :
    tickRun (m + n) s = tickRun n t := by
  induction m generalizing s with
  | zero => rw [Nat.zero_add, eq_of_next h]
  | succ m ih =>
    cases he : tickEvent s with
    | next u =>
      rw [tickRun_succ he] at h
      rw [Nat.succ_add, tickRun_succ he, ih h]
    | fault f => simp [tickRun, he] at h
    | refused r => simp [tickRun, he] at h

/-- A run that goes on goes on up to each of its ticks. -/
theorem tickRun_split {m n : Nat} {s t : State} (h : tickRun (m + n) s = .next t) :
    ∃ u, tickRun m s = .next u ∧ tickRun n u = .next t := by
  induction m generalizing s with
  | zero => exact ⟨s, rfl, by rwa [Nat.zero_add] at h⟩
  | succ m ih =>
    rw [Nat.succ_add] at h
    cases he : tickEvent s with
    | next u =>
      rw [tickRun_succ he] at h ⊢
      exact ih h
    | fault f => simp [tickRun, he] at h
    | refused r => simp [tickRun, he] at h

/-- With the timer stopped nothing changes any more (R140). -/
theorem tickRun_stopped {s : State} (h : s.timerEn = false) (n : Nat) : tickRun n s = .next s := by
  induction n with
  | zero => rfl
  | succ n ih => rw [tickRun_succ (tickEvent_stopped h), ih]

theorem tickRun_blankCursor {n : Nat} {s t : State} (h : tickRun n s = .next t) : blankCursor t = blankCursor s := by
  induction n generalizing s with
  | zero => rw [eq_of_next h]
  | succ n ih =>
    obtain ⟨u, hu, ht⟩ := tickRun_split (m := 1) (by rwa [Nat.add_comm] at h)
    rw [ih ht, tickEvent_blankCursor (tickEvent_of_tickRun_one hu)]

/-- A run keeps the configuration (R22). -/
theorem tickRun_cfgGap {n : Nat} {s t : State} (h : tickRun n s = .next t) : t.cfgGap = s.cfgGap := by
  simpa [blankCursor] using congrArg State.cfgGap (tickRun_blankCursor h)

theorem tickRun_inv {n : Nat} {s t : State} (hs : Inv s) (h : tickRun n s = .next t) : Inv t := by
  induction n generalizing s with
  | zero => rwa [eq_of_next h]
  | succ n ih =>
    obtain ⟨u, hu, ht⟩ := tickRun_split (m := 1) (by rwa [Nat.add_comm] at h)
    exact ih (tickEvent_inv hs (tickEvent_of_tickRun_one hu)) ht

/-! ### The period of a symbol (R154) -/

theorem eff_pos (k : BitVec 8) : 0 < eff k := by
  unfold eff
  split <;> bv_omega

theorem eff_le (k : BitVec 8) : eff k ≤ 256 := by
  unfold eff
  split <;> omega

/-- The counter holds its width modulo 256 (R154). -/
theorem ofNat_eff (k : BitVec 8) : BitVec.ofNat 8 (eff k) = k := by
  unfold eff
  split
  · next h => rw [h]; rfl
  · simp

/-- The pin after `n` ticks without a zero event: OFF once the trailing event has come (R142). -/
def pinAfter (s : State) (n : Nat) : Level :=
  if s.cfgTrail.toNat < eff s.toggle ∧ eff s.toggle ≤ n + s.cfgTrail.toNat then offLevel s else s.txOut

/-- The state after `n` ticks without a zero event. -/
def countedDown (s : State) (n : Nat) : State :=
  { s with toggle := BitVec.ofNat 8 (eff s.toggle - n), txOut := pinAfter s n }

@[simp] theorem countedDown_timerEn (s : State) (n : Nat) : (countedDown s n).timerEn = s.timerEn := rfl
@[simp] theorem countedDown_framing (s : State) (n : Nat) : (countedDown s n).framing = s.framing := rfl
@[simp] theorem countedDown_txOut (s : State) (n : Nat) : (countedDown s n).txOut = pinAfter s n := rfl

theorem countedDown_zero (s : State) : countedDown s 0 = s := by
  have hpin : pinAfter s 0 = s.txOut := if_neg (by omega)
  rw [countedDown, hpin, Nat.sub_zero, ofNat_eff]

theorem countedDown_toggle_eq_one {s : State} {n : Nat} (h : n < eff s.toggle) :
    (countedDown s n).toggle = 1 ↔ n + 1 = eff s.toggle := by
  have hle := eff_le s.toggle
  change BitVec.ofNat 8 (eff s.toggle - n) = 1 ↔ _
  bv_omega

/-- The counter after one more tick meets `CFG_TRAIL` when `T` ticks remain (R142). -/
theorem countedDown_succ_pin {s : State} {n : Nat} (h : n + 1 < eff s.toggle) :
    (if BitVec.ofNat 8 (eff s.toggle - n) - 1 = s.cfgTrail then offLevel s else pinAfter s n) = pinAfter s (n + 1) := by
  have hle := eff_le s.toggle
  have hmeet : BitVec.ofNat 8 (eff s.toggle - n) - 1 = s.cfgTrail ↔ eff s.toggle = n + 1 + s.cfgTrail.toNat := by bv_omega
  simp only [hmeet, pinAfter]
  by_cases hnow : eff s.toggle = n + 1 + s.cfgTrail.toNat
  · rw [if_pos hnow, if_pos (by omega)]
  · have hsame : s.cfgTrail.toNat < eff s.toggle ∧ eff s.toggle ≤ n + s.cfgTrail.toNat ↔
        s.cfgTrail.toNat < eff s.toggle ∧ eff s.toggle ≤ n + 1 + s.cfgTrail.toNat := by omega
    simp only [hnow, hsame, if_false]

theorem tickEvent_countedDown {s : State} {n : Nat} (hen : s.timerEn = true) (hf : s.framing ≠ .unused7)
    (h : n + 1 < eff s.toggle) : tickEvent (countedDown s n) = .next (countedDown s (n + 1)) := by
  have hone : (countedDown s n).toggle ≠ 1 := fun ht => by
    rw [countedDown_toggle_eq_one (by omega)] at ht
    omega
  have hdec : BitVec.ofNat 8 (eff s.toggle - n) - 1 = BitVec.ofNat 8 (eff s.toggle - (n + 1)) := by bv_omega
  rw [tickEvent_running (s := countedDown s n) hen, tickStep_quiet (s := countedDown s n) hf hone, trailingEvent_eq]
  change Host.Outcome.next { s with
    toggle := BitVec.ofNat 8 (eff s.toggle - n) - 1
    txOut := if BitVec.ofNat 8 (eff s.toggle - n) - 1 = s.cfgTrail then offLevel s else pinAfter s n } = _
  rw [countedDown_succ_pin h, hdec]
  rfl

/-- Before the `eff(TOGGLE)`-th tick only the counter and the pin move (R154). -/
theorem tickRun_countedDown {s : State} {n : Nat} (hen : s.timerEn = true) (hf : s.framing ≠ .unused7)
    (h : n < eff s.toggle) : tickRun n s = .next (countedDown s n) := by
  induction n with
  | zero => rw [countedDown_zero, tickRun]
  | succ n ih =>
    rw [tickRun_add (ih (by omega)), tickRun_one, tickEvent_countedDown hen hf h]

/-- The next zero event is the `eff(TOGGLE)`-th tick (R154). -/
theorem zeroEventDue_countedDown {s : State} {n : Nat} (hen : s.timerEn = true) (h : n < eff s.toggle) (f : Framing) :
    zeroEventDue f (countedDown s n) ↔ s.framing = f ∧ n + 1 = eff s.toggle := by
  simp only [zeroEventDue, countedDown_timerEn, countedDown_framing, hen, countedDown_toggle_eq_one h, true_and]

/-- The state one tick before the zero event. -/
theorem expire_countedDown (s : State) : expire (countedDown s (eff s.toggle - 1)) = expire s := by
  have hpos := eff_pos s.toggle
  have hone := (countedDown_toggle_eq_one (s := s) (n := eff s.toggle - 1) (by omega)).2 (by omega)
  have heff : eff (countedDown s (eff s.toggle - 1)).toggle = 1 := by rw [hone]; rfl
  have hpin : pinAtZero (countedDown s (eff s.toggle - 1)) = pinAtZero s := by
    unfold pinAtZero
    rw [heff, countedDown_txOut, pinAfter]
    change (if s.cfgTrail.toNat < 1 then offLevel s else _) = _
    by_cases hzero : s.cfgTrail.toNat < 1
    · rw [if_pos hzero, if_pos (by omega)]
    · have hsame : s.cfgTrail.toNat < eff s.toggle ∧ eff s.toggle ≤ eff s.toggle - 1 + s.cfgTrail.toNat ↔
          s.cfgTrail.toNat < eff s.toggle := by omega
      simp only [hzero, hsame, if_false]
  rw [expire, hpin]
  rfl

/-- The `eff(TOGGLE)`-th tick is the zero event (R154). -/
theorem tickRun_eff {s : State} (hen : s.timerEn = true) (hf : s.framing ≠ .unused7) :
    tickRun (eff s.toggle) s = zeroEvent (expire s) := by
  have hpos := eff_pos s.toggle
  have hone := (countedDown_toggle_eq_one (s := s) (n := eff s.toggle - 1) (by omega)).2 (by omega)
  calc tickRun (eff s.toggle) s = tickRun (eff s.toggle - 1 + 1) s := by rw [Nat.sub_add_cancel hpos]
    _ = tickEvent (countedDown s (eff s.toggle - 1)) := by
      rw [tickRun_add (tickRun_countedDown hen hf (by omega)), tickRun_one]
    _ = zeroEvent (expire (countedDown s (eff s.toggle - 1))) := by
      rw [tickEvent_running (by simpa using hen), tickStep_expire (by simpa using hf) hone]
    _ = zeroEvent (expire s) := by rw [expire_countedDown]

theorem framing_of_due {s : State} {f : Framing} (h : zeroEventDue f s) : s.framing = f := by
  obtain ⟨-, hf, -⟩ := h
  exact hf

theorem eff_toggle_of_due {s : State} {f : Framing} (h : zeroEventDue f s) : eff s.toggle = 1 := by
  obtain ⟨-, -, ht⟩ := h
  rw [ht]
  rfl

/-- The tick on a due zero event. -/
theorem tickEvent_due {s : State} {f : Framing} (h : zeroEventDue f s) (hf : f ≠ .unused7) :
    tickEvent s = zeroEvent (expire s) := by
  obtain ⟨hen, rfl, ht⟩ := h
  rw [tickEvent_running hen, tickStep_expire hf ht]

/-- Settles O50: the state counted down, and when its counter is 1. -/
theorem symbolPeriod : Obligations.SymbolPeriod := by
  intro s n hen hf hn
  refine ⟨countedDown s n, tickRun_countedDown hen hf hn, rfl, ?_⟩
  simp [zeroEventDue_countedDown hen hn]

/-! ### ON symbols and silent bits (R155, R156) -/

/-- The zero event is one of the four that drive ON (R146-R149). -/
def drivesOn (s : State) : Prop :=
  zeroEventDue .msgStart s ∨ zeroEventDue .byteStart s ∨ zeroEventDue .msgEnd s ∨
    (zeroEventDue .sendByte s ∧ ∃ h, bitTested s h = true)

/-- A symbol has just begun: the counter holds `k`, the pin is at `p`, and the configuration is that of `s`. -/
def SymbolBegun (s : State) (k : BitVec 8) (p : Level) (t : State) : Prop :=
  t.timerEn = true ∧ t.framing ≠ .unused7 ∧ t.toggle = k ∧ t.txOut = p ∧ t.cfgTrail = s.cfgTrail ∧
    offLevel t = offLevel s

/-- The framing state that the bit step leaves is never the unused code (R148, R152). -/
theorem sendByte_next_ne_unused7 (exhausted last : Prop) [Decidable exhausted] [Decidable last] :
    (if exhausted then (if last then .msgEnd else .byteStart) else Framing.sendByte) ≠ .unused7 := by
  split_ifs <;> simp

/-- Each of the four begins an ON symbol of width `CFG_HIGH`. -/
theorem tickEvent_drivesOn {s : State} (h : drivesOn s) :
    ∃ t, tickEvent s = .next t ∧ SymbolBegun s s.cfgHigh (onLevel s) t := by
  obtain hdue | hdue | hdue | ⟨hdue, hi, hbit⟩ := h <;> have ⟨hen, hf, _⟩ := hdue <;>
    rw [tickEvent_due hdue (by simp)]
  · exact ⟨_, zeroEvent_expire_msgStart hf, hen, by simp, rfl, rfl, rfl, rfl⟩
  · exact ⟨_, zeroEvent_expire_byteStart hf, hen, by simp, rfl, rfl, rfl, rfl⟩
  · exact ⟨_, zeroEvent_expire_msgEnd hf, hen, by simp, rfl, rfl, rfl, rfl⟩
  · exact ⟨_, zeroEvent_expire_sendByte hf hi, hen, sendByte_next_ne_unused7 _ _, if_pos hbit, if_pos hbit, rfl, rfl⟩

/-- A 0 bit begins a symbol of width `CFG_LOW` and leaves the pin to the trailing event. -/
theorem tickEvent_zeroBit {s : State} {hi : s.byteIdx.toNat < 10} (hdue : zeroEventDue .sendByte s)
    (hbit : bitTested s hi = false) : ∃ t, tickEvent s = .next t ∧ SymbolBegun s s.cfgLow (pinAtZero s) t := by
  have ⟨hen, hf, _⟩ := hdue
  rw [tickEvent_due hdue (by simp)]
  exact ⟨_, zeroEvent_expire_sendByte hf hi, hen, sendByte_next_ne_unused7 _ _, if_neg (by simp [hbit]),
    if_neg (by simp [hbit]), rfl, rfl⟩

/-- A symbol just begun, `n` ticks on. -/
theorem SymbolBegun.tickRun {s t : State} {k : BitVec 8} {p : Level} {n : Nat} (h : SymbolBegun s k p t) (hn : n < eff k) :
    ∃ u, tickRun n t = .next u ∧ u.toggle = BitVec.ofNat 8 (eff k - n) ∧
      u.txOut = if s.cfgTrail.toNat < eff k ∧ eff k ≤ n + s.cfgTrail.toNat then offLevel s else p := by
  obtain ⟨hen, hf, rfl, rfl, htrail, hoff⟩ := h
  refine ⟨_, tickRun_countedDown hen hf hn, rfl, ?_⟩
  rw [← htrail, ← hoff]
  rfl

/-- Settles O51: each of the four begins an ON symbol. -/
theorem onSymbolLevels : Obligations.OnSymbolLevels := by
  intro s n hdue hn
  obtain ⟨t, ht, hbegun⟩ := tickEvent_drivesOn hdue
  obtain ⟨u, hu, -, hpin⟩ := hbegun.tickRun hn
  exact ⟨u, (tickRun_succ ht n).trans hu, hpin⟩

/-- Settles O52: a 0 bit drives nothing, and a trailing event drives OFF. -/
theorem zeroBitIsSilent : Obligations.ZeroBitIsSilent := by
  intro s hi n hdue hbit hoff hn
  obtain ⟨t, ht, hbegun⟩ := tickEvent_zeroBit hdue hbit
  obtain ⟨u, hu, htoggle, hpin⟩ := hbegun.tickRun hn
  refine ⟨u, (tickRun_succ ht n).trans hu, ?_, htoggle⟩
  rw [hpin, pinAtZero, hoff]
  simp only [ite_self]

/-! ### The gap (R150, R157) -/

/-- The `gap_start` zero event begins a period of `CFG_GAP`, and counts `GAP_REP` down to `gap_end` (R150). -/
theorem tickEvent_gapStart {s : State} (h : zeroEventDue .gapStart s) :
    ∃ t, tickEvent s = .next t ∧ t.timerEn = true ∧ t.framing = (if s.gapRep = 0 then .gapEnd else .gapStart) ∧
      t.toggle = s.cfgGap ∧ t.gapRep = (if s.gapRep = 0 then 0 else s.gapRep - 1) := by
  have ⟨hen, hf, _⟩ := h
  rw [tickEvent_due h (by simp)]
  exact ⟨_, zeroEvent_expire_gapStart hf, hen, rfl, rfl, rfl⟩

/-- From one `gap_start` zero event to the next zero event: `eff(G)` ticks. -/
theorem gapPeriod {s : State} (h : zeroEventDue .gapStart s) :
    (∃ t, tickRun (eff s.cfgGap) s = .next t ∧ zeroEventDue (if s.gapRep = 0 then .gapEnd else .gapStart) t ∧
      t.gapRep = if s.gapRep = 0 then 0 else s.gapRep - 1) ∧
    (∀ (n : Nat) (f : Framing) (t : State), n < eff s.cfgGap → tickRun n s = .next t → zeroEventDue f t →
      f = .gapStart ∧ n = 0) := by
  obtain ⟨u, htick, hen, hf, htoggle, hgap⟩ := tickEvent_gapStart h
  have hused : u.framing ≠ .unused7 := by rw [hf]; split_ifs <;> simp
  have hpos := eff_pos s.cfgGap
  rw [← htoggle] at hpos ⊢
  have hrun (n : Nat) (hn : n < eff u.toggle) : tickRun (n + 1) s = .next (countedDown u n) := by
    rw [tickRun_succ htick, tickRun_countedDown hen hused hn]
  refine ⟨⟨countedDown u (eff u.toggle - 1), ?_, ?_, hgap⟩, fun n f t hn hnt hdue => ?_⟩
  · rw [← hrun _ (by omega), Nat.sub_add_cancel hpos]
  · exact (zeroEventDue_countedDown hen (by omega) _).2 ⟨hf, by omega⟩
  · cases n with
    | zero =>
      obtain rfl := eq_of_next hnt
      exact ⟨(framing_of_due hdue).symm.trans (framing_of_due h), rfl⟩
    | succ n =>
      obtain rfl := eq_of_next ((hrun n (by omega)).symm.trans hnt)
      obtain ⟨-, hlast⟩ := (zeroEventDue_countedDown hen (by omega) f).1 hdue
      omega

/-- The `k`-th repetition of the gap (R150). -/
theorem gapRepetition {s : State} (h : zeroEventDue .gapStart s) {k : Nat} (hk : k ≤ s.gapRep.toNat) :
    ∃ t, tickRun (k * eff s.cfgGap) s = .next t ∧ zeroEventDue .gapStart t ∧ t.gapRep.toNat = s.gapRep.toNat - k := by
  induction k with
  | zero => exact ⟨s, by rw [Nat.zero_mul, tickRun], h, rfl⟩
  | succ k ih =>
    obtain ⟨t, ht, hdue, hgap⟩ := ih (by omega)
    have hne : t.gapRep ≠ 0 := by bv_omega
    obtain ⟨⟨u, hu, hnext, hcount⟩, -⟩ := gapPeriod hdue
    rw [tickRun_cfgGap ht] at hu
    rw [if_neg hne] at hnext hcount
    refine ⟨u, ?_, hnext, by bv_omega⟩
    rw [Nat.succ_mul, tickRun_add ht, hu]

/-- Settles O53, from repetition to repetition. -/
theorem gapLength : Obligations.GapLength := by
  intro s h
  refine ⟨fun k hk => gapRepetition h hk, ?_, fun n f t hn hnt hft => ?_⟩
  · obtain ⟨t, ht, hdue, hgap⟩ := gapRepetition h le_rfl
    have hzero : t.gapRep = 0 := by bv_omega
    obtain ⟨⟨u, hu, hnext, -⟩, -⟩ := gapPeriod hdue
    rw [tickRun_cfgGap ht] at hu
    rw [if_pos hzero] at hnext
    exact ⟨u, by rw [Nat.succ_mul, tickRun_add ht, hu], hnext⟩
  · have hk : n / eff s.cfgGap ≤ s.gapRep.toNat := Nat.lt_succ_iff.1 (Nat.div_lt_of_lt_mul (by rwa [Nat.mul_comm]))
    obtain ⟨u, hu, hdue, -⟩ := gapRepetition h hk
    have hrest : tickRun (n % eff s.cfgGap) u = .next t := by
      rw [← tickRun_add hu, Nat.mul_comm, Nat.div_add_mod, hnt]
    obtain ⟨-, honly⟩ := gapPeriod hdue
    rw [tickRun_cfgGap hu] at honly
    exact honly _ f t (Nat.mod_lt _ (eff_pos _)) hrest hft

end Sys2Proof.Machine

/-! ## Proofs: one repetition on the wire (spec/42_tick_sequencer.md R146-R151, R155-R158, R160) -/

namespace Sys2Proof.Machine

/-! ### Stretches of a transmission -/

/-- From `s` the pin shows `w`, one level at each tick, while the timer runs outside `msg_start`; then the state is `t`. -/
def Shows (w : List Level) (s t : State) : Prop :=
  tickRun w.length s = .next t ∧
    ∀ (n : Nat) (h : n < w.length),
      ∃ u, tickRun n s = .next u ∧ u.txOut = w[n] ∧ u.timerEn = true ∧ u.framing ≠ .msgStart

theorem Shows.trans {w v : List Level} {s t u : State} (hw : Shows w s t) (hv : Shows v t u) : Shows (w ++ v) s u := by
  obtain ⟨hst, hw⟩ := hw
  obtain ⟨htu, hv⟩ := hv
  refine ⟨by rw [List.length_append, tickRun_add hst, htu], fun n hn => ?_⟩
  by_cases hnw : n < w.length
  · rw [List.getElem_append_left hnw]
    exact hw n hnw
  · obtain ⟨m, rfl⟩ := Nat.exists_eq_add_of_le (not_lt.mp hnw)
    rw [List.length_append] at hn
    rw [List.getElem_append_right (by omega), tickRun_add hst]
    simpa using hv m (by omega)

/-- One symbol period: the levels the trailing event leaves, up to the zero event (R142, R154). -/
theorem shows_period {s t : State} (hen : s.timerEn = true) (hf : s.framing ≠ .unused7) (hm : s.framing ≠ .msgStart)
    (hz : zeroEvent (expire s) = .next t) : Shows ((List.range (eff s.toggle)).map (pinAfter s)) s t := by
  refine ⟨by rw [List.length_map, List.length_range, tickRun_eff hen hf, hz], fun n hn => ?_⟩
  rw [List.length_map, List.length_range] at hn
  exact ⟨_, tickRun_countedDown hen hf hn, by simp, hen, hm⟩

/-- A stretch of `n` ticks from `s` to `t` in a transmission of the core `c`; when `T < eff(H)` the pin shows `v`. -/
def Stretch (c : State) (n : Nat) (v : List Bool) (s t : State) : Prop :=
  ∃ w, w.length = n ∧ Shows w s t ∧ (c.cfgTrail.toNat < eff c.cfgHigh → w = v.map (levelOf c))

theorem Stretch.refl (c s : State) : Stretch c 0 [] s s :=
  ⟨[], rfl, ⟨rfl, fun n hn => absurd hn (Nat.not_lt_zero n)⟩, fun _ => rfl⟩

theorem Stretch.trans {c s t u : State} {m n : Nat} {v v' : List Bool} (h : Stretch c m v s t) (h' : Stretch c n v' t u) :
    Stretch c (m + n) (v ++ v') s u := by
  obtain ⟨w, hlen, hw, hv⟩ := h
  obtain ⟨w', hlen', hw', hv'⟩ := h'
  refine ⟨w ++ w', by rw [List.length_append, hlen, hlen'], hw.trans hw', fun htrail => ?_⟩
  rw [hv htrail, hv' htrail, List.map_append]

/-! ### The states of a repetition -/

/-- The core `c` with its transmit cursor, but for `REP_CNT`, and its pin set. -/
def moveTo (f : Framing) (k : BitVec 8) (i : BitVec 4) (m : BitVec 8) (g : BitVec 16) (p : Level) (c : State) : State :=
  { c with framing := f, toggle := k, byteIdx := i, bitMask := m, gapRep := g, txOut := p }

/-- The pin at the end of a period of width `k` that began with the pin at `p` (R142). -/
def pinPast (c : State) (k : BitVec 8) (p : Level) : Level := if c.cfgTrail.toNat < eff k then offLevel c else p

section
variable {c t : State} {f : Framing} {k : BitVec 8} {i : BitVec 4} {m : BitVec 8} {g : BitVec 16} {p : Level}

/-- A period of an ON symbol (R155). -/
theorem stretch_on (hen : c.timerEn = true) (hf : f ≠ .unused7) (hm : f ≠ .msgStart)
    (hp : c.cfgTrail.toNat < eff c.cfgHigh → p = onLevel c)
    (hz : zeroEvent (expire (moveTo f c.cfgHigh i m g p c)) = .next t) :
    Stretch c (eff c.cfgHigh) (onSymbol c) (moveTo f c.cfgHigh i m g p c) t := by
  refine ⟨_, by simp [moveTo], shows_period hen hf hm hz, fun htrail => ?_⟩
  refine List.ext_getElem (by simp [onSymbol, moveTo]; omega) fun n hn _ => ?_
  have hlen : n < eff c.cfgHigh := by simpa [moveTo] using hn
  have hpin : pinAfter (moveTo f c.cfgHigh i m g p c) n =
    if c.cfgTrail.toNat < eff c.cfgHigh ∧ eff c.cfgHigh ≤ n + c.cfgTrail.toNat then offLevel c else p := rfl
  rw [List.getElem_map, List.getElem_map, List.getElem_range, hpin, hp htrail]
  by_cases hoff : eff c.cfgHigh ≤ n + c.cfgTrail.toNat
  · rw [if_pos ⟨htrail, hoff⟩]
    simp only [onSymbol]
    rw [List.getElem_append_right (by simp; omega), List.getElem_replicate]
    rfl
  · rw [if_neg (by omega)]
    simp only [onSymbol]
    rw [List.getElem_append_left (by simp; omega), List.getElem_replicate]
    rfl

/-- A period that begins with the pin OFF (R156, R157). -/
theorem stretch_off (hen : c.timerEn = true) (hf : f ≠ .unused7) (hm : f ≠ .msgStart)
    (hp : c.cfgTrail.toNat < eff c.cfgHigh → p = offLevel c)
    (hz : zeroEvent (expire (moveTo f k i m g p c)) = .next t) :
    Stretch c (eff k) (List.replicate (eff k) false) (moveTo f k i m g p c) t := by
  refine ⟨_, by simp [moveTo], shows_period hen hf hm hz, fun htrail => ?_⟩
  have hpin (n : Nat) : pinAfter (moveTo f k i m g p c) n = levelOf c false := ite_eq_left_iff.2 fun _ => hp htrail
  rw [List.map_congr_left fun n _ => hpin n]
  simp [moveTo]

/-- The period of a bit (R155, R156). -/
theorem stretch_bit (bit : Bool) (hen : c.timerEn = true) (hf : f ≠ .unused7) (hm : f ≠ .msgStart)
    (hp : c.cfgTrail.toNat < eff c.cfgHigh → p = levelOf c bit)
    (hz : zeroEvent (expire (moveTo f (if bit then c.cfgHigh else c.cfgLow) i m g p c)) = .next t) :
    Stretch c (if bit then eff c.cfgHigh else eff c.cfgLow) (bitSymbol c bit)
      (moveTo f (if bit then c.cfgHigh else c.cfgLow) i m g p c) t := by
  cases bit with
  | true => exact stretch_on hen hf hm hp hz
  | false => exact stretch_off hen hf hm hp hz

end

/-! ### A byte (R147, R148) -/

/-- The state a `send_byte` zero event leaves that tested bit `k` of `BUF[i]`, found it `bit`, and left the pin at `p`. -/
def afterBit (c : State) (g : BitVec 16) (i : Nat) (bit : Bool) (p : Level) : Nat → State
  | 0 =>
    moveTo (if i = 9 then .msgEnd else .byteStart) (if bit then c.cfgHigh else c.cfgLow) (BitVec.ofNat 4 (i + 1)) 0 g p c
  | k + 1 => moveTo .sendByte (if bit then c.cfgHigh else c.cfgLow) (BitVec.ofNat 4 i) (BitVec.twoPow 8 k) g p c

/-- The state that the `byte_start` zero event of `BUF[i]` leaves; for `i = 10`, that the `msg_end` zero event leaves. -/
def byteBegun (c : State) (g : BitVec 16) (i : Nat) : State :=
  if i = 10 then moveTo .gapStart c.cfgHigh 10 0 c.cfgGapmul (onLevel c) c
  else moveTo .sendByte c.cfgHigh (BitVec.ofNat 4 i) (BitVec.twoPow 8 7) g (onLevel c) c

theorem twoPow_ne_zero {k : Nat} (hk : k < 8) : BitVec.twoPow 8 k ≠ 0 := by
  interval_cases k <;> decide

/-- With a one-hot mask `send_byte` tests one bit of the byte (R148). -/
theorem bitTested_twoPow {s : State} {i k : Nat} (hi : s.byteIdx.toNat < 10) (hidx : s.byteIdx.toNat = i)
    (hmask : s.bitMask = BitVec.twoPow 8 k) (hk : k < 8) :
    bitTested s hi = (s.buf[i]'(hidx ▸ hi)).val.getLsbD k := by
  subst hidx
  have hne := twoPow_ne_zero hk
  rw [bitTested, hmask, BitVec.and_twoPow]
  cases h : (s.buf[s.byteIdx.toNat]).val.getLsbD k with
  | true => simpa using hne
  | false => simp

theorem twoPow_succ_shift {k : Nat} (hk : k < 7) : BitVec.twoPow 8 (k + 1) >>> 1 = BitVec.twoPow 8 k := by
  interval_cases k <;> decide

/-- The zero event of bit `k` of `BUF[i]` (R148). -/
theorem zeroEvent_bit (c : State) (g : BitVec 16) {i k : Nat} (hi : i < 10) (hk : k < 8) (w : BitVec 8) (p : Level) :
    zeroEvent (expire (moveTo .sendByte w (BitVec.ofNat 4 i) (BitVec.twoPow 8 k) g p c)) =
      .next (afterBit c g i (c.buf[i].val.getLsbD k)
        (if c.buf[i].val.getLsbD k then onLevel c else pinPast c w p) k) := by
  have hidx : (BitVec.ofNat 4 i).toNat = i := by rw [BitVec.toNat_ofNat]; omega
  have hlast : BitVec.ofNat 4 i = 9 ↔ i = 9 := by bv_omega
  have hnext : BitVec.ofNat 4 i + 1 = BitVec.ofNat 4 (i + 1) := by bv_omega
  have hlt : (moveTo .sendByte w (BitVec.ofNat 4 i) (BitVec.twoPow 8 k) g p c).byteIdx.toNat < 10 := hidx.trans_lt hi
  have hbit : bitTested _ hlt = c.buf[i].val.getLsbD k := bitTested_twoPow hlt hidx rfl hk
  rw [zeroEvent_expire_sendByte rfl hlt, hbit]
  cases k with
  | zero =>
    have hshift : BitVec.twoPow 8 0 >>> 1 = 0 := by decide
    simp only [moveTo, afterBit, hshift, if_true, hlast, hnext]
    rfl
  | succ k =>
    have hne := twoPow_ne_zero (k := k) (by omega)
    simp only [moveTo, afterBit, twoPow_succ_shift (show k < 7 by omega), hne, if_false]
    rfl

/-- The zero event after a byte's last bit (R147, R149). -/
theorem zeroEvent_afterByte (c : State) (g : BitVec 16) {i : Nat} (w : BitVec 8) (p : Level) :
    zeroEvent (expire (moveTo (if i = 9 then .msgEnd else .byteStart) w (BitVec.ofNat 4 (i + 1)) 0 g p c)) =
      .next (byteBegun c g (i + 1)) := by
  by_cases hi : i = 9
  · subst hi
    exact zeroEvent_expire_msgEnd rfl
  · simp only [hi, if_false, byteBegun, show ¬ i + 1 = 10 by omega]
    exact zeroEvent_expire_byteStart rfl

/-- The 1 bits among the low `n` bits of a byte. -/
def onesBelow (b : Byte) (n : Nat) : Nat := (List.range n).countP (fun k => b.getLsbD k)

theorem onesBelow_succ (b : Byte) (n : Nat) : onesBelow b (n + 1) = onesBelow b n + if b.getLsbD n then 1 else 0 := by
  simp [onesBelow, List.range_succ, List.countP_append]

theorem onesBelow_le (b : Byte) (n : Nat) : onesBelow b n ≤ n := by
  simpa [onesBelow] using List.countP_le_length (p := fun k => b.getLsbD k) (l := List.range n)

/-- The ticks of the low `n` bits of a byte. -/
def bitsTicks (c : State) (b : Byte) (n : Nat) : Nat :=
  onesBelow b n * eff c.cfgHigh + (n - onesBelow b n) * eff c.cfgLow

theorem bitsTicks_succ (c : State) (b : Byte) (n : Nat) :
    bitsTicks c b (n + 1) = (if b.getLsbD n then eff c.cfgHigh else eff c.cfgLow) + bitsTicks c b n := by
  have hle := onesBelow_le b n
  rw [bitsTicks, bitsTicks, onesBelow_succ]
  split_ifs
  · rw [Nat.add_sub_add_right]
    ring
  · rw [Nat.add_zero, Nat.sub_add_comm hle]
    ring

/-- The symbols of the low `n` bits of a byte, the highest first. -/
def bitsWave (c : State) (b : Byte) : Nat → List Bool
  | 0 => []
  | n + 1 => bitSymbol c (b.getLsbD n) ++ bitsWave c b n

theorem byteSymbols_eq (c : State) (b : Byte) : byteSymbols c b = onSymbol c ++ bitsWave c b 8 := by
  simp [byteSymbols, bitsWave]

/-- The pin is OFF at the end of an ON symbol with `T < eff(H)`, and of a period that began with it OFF. -/
theorem pinPast_bit {c : State} {bit : Bool} {p : Level} (htrail : c.cfgTrail.toNat < eff c.cfgHigh)
    (hp : p = levelOf c bit) : pinPast c (if bit then c.cfgHigh else c.cfgLow) p = offLevel c := by
  cases bit with
  | true => exact if_pos htrail
  | false => exact ite_eq_left_iff.2 fun _ => hp

/-- From the zero event of bit `k` to the end of the byte. -/
theorem stretch_bits {c : State} (hen : c.timerEn = true) (g : BitVec 16) {i k : Nat} (hi : i < 10) (hk : k < 8) {p : Level}
    (hp : c.cfgTrail.toNat < eff c.cfgHigh → p = levelOf c (c.buf[i].val.getLsbD k)) :
    Stretch c (bitsTicks c c.buf[i].val (k + 1)) (bitsWave c c.buf[i].val (k + 1))
      (afterBit c g i (c.buf[i].val.getLsbD k) p k) (byteBegun c g (i + 1)) := by
  rw [bitsTicks_succ, bitsWave]
  induction k generalizing p with
  | zero =>
    have hlast := stretch_bit (c.buf[i].val.getLsbD 0) hen (by split_ifs <;> simp) (by split_ifs <;> simp) hp
      (zeroEvent_afterByte c g (i := i) _ p)
    exact hlast.trans (by simpa [bitsTicks, bitsWave, onesBelow] using Stretch.refl c _)
  | succ k ih =>
    have hbit := stretch_bit (c.buf[i].val.getLsbD (k + 1)) hen (by simp) (by simp) hp
      (zeroEvent_bit c g hi (show k < 8 by omega) _ p)
    refine hbit.trans ?_
    rw [bitsTicks_succ, bitsWave]
    refine ih (by omega) fun htrail => ?_
    rw [pinPast_bit htrail (hp htrail), levelOf]

/-- The ticks of one byte: an ON symbol and its eight bits. -/
def byteTicks (c : State) (b : Byte) : Nat := eff c.cfgHigh + bitsTicks c b 8

theorem stretch_byte {c : State} (hen : c.timerEn = true) (g : BitVec 16) {i : Nat} (hi : i < 10) :
    Stretch c (byteTicks c c.buf[i].val) (byteSymbols c c.buf[i].val) (byteBegun c g i) (byteBegun c g (i + 1)) := by
  have hbegun : byteBegun c g i = moveTo .sendByte c.cfgHigh (BitVec.ofNat 4 i) (BitVec.twoPow 8 7) g (onLevel c) c :=
    if_neg (by omega)
  rw [byteSymbols_eq, byteTicks, hbegun]
  refine (stretch_on hen (by simp) (by simp) (fun _ => rfl) (zeroEvent_bit c g hi (by omega) _ _)).trans ?_
  refine stretch_bits hen g hi (by omega) fun htrail => ?_
  rw [pinPast, if_pos htrail, levelOf]

/-- The last `n` bytes of the frame. -/
theorem stretch_bytes {c : State} (hen : c.timerEn = true) (g : BitVec 16) (n i : Nat) (hi : i + n = 10) :
    Stretch c ((c.buf.toList.drop i).map fun b => byteTicks c b.val).sum
      ((c.buf.toList.drop i).flatMap fun b => byteSymbols c b.val) (byteBegun c g i) (byteBegun c g 10) := by
  induction n generalizing i with
  | zero =>
    have hdrop : c.buf.toList.drop i = [] := List.drop_eq_nil_of_le (by simp; omega)
    obtain rfl : i = 10 := hi
    simpa [hdrop] using Stretch.refl c _
  | succ n ih =>
    have hdrop : c.buf.toList.drop i = c.buf[i] :: c.buf.toList.drop (i + 1) := by
      rw [List.drop_eq_getElem_cons (by simp; omega), Vector.getElem_toList]
    rw [hdrop, List.map_cons, List.sum_cons, List.flatMap_cons]
    exact (stretch_byte hen g (by omega)).trans (ih (i + 1) (by omega))

theorem ones_le (b : Byte) : ones b ≤ 8 := onesBelow_le b 8

theorem byteTicks_eq (c : State) (b : Byte) :
    byteTicks c b = (1 + ones b) * eff c.cfgHigh + (8 - ones b) * eff c.cfgLow := by
  change eff c.cfgHigh + (ones b * eff c.cfgHigh + (8 - ones b) * eff c.cfgLow) = _
  ring

theorem sum_ones_le (l : List BufByte) : (l.map fun b => ones b.val).sum ≤ 8 * l.length := by
  induction l with
  | nil => simp
  | cons b l ih =>
    have hb := ones_le b.val
    rw [List.map_cons, List.sum_cons, List.length_cons]
    omega

/-- The ticks of a list of bytes: one ON symbol and eight bits each (R158). -/
theorem sum_byteTicks (c : State) (l : List BufByte) :
    (l.map fun b => byteTicks c b.val).sum =
      (l.length + (l.map fun b => ones b.val).sum) * eff c.cfgHigh +
        (8 * l.length - (l.map fun b => ones b.val).sum) * eff c.cfgLow := by
  induction l with
  | nil => simp
  | cons b l ih =>
    have hb := ones_le b.val
    have hl := sum_ones_le l
    simp only [List.map_cons, List.sum_cons, List.length_cons, byteTicks_eq c b.val, ih]
    rw [show 8 * (l.length + 1) - (ones b.val + (l.map fun b => ones b.val).sum) =
      (8 - ones b.val) + (8 * l.length - (l.map fun b => ones b.val).sum) by omega]
    ring

/-! ### The gap (R150, R157) -/

/-- The state that the `gap_start` zero event of `GAP_REP = m` leaves with the pin at `p`. -/
def gapBegun (c : State) (p : Level) : Nat → State
  | 0 => moveTo .gapEnd c.cfgGap 10 0 0 p c
  | m + 1 => moveTo .gapStart c.cfgGap 10 0 (BitVec.ofNat 16 m) p c

theorem zeroEvent_gapBegun (c : State) {m : Nat} (hm : m < 65536) (k : BitVec 8) (p : Level) :
    zeroEvent (expire (moveTo .gapStart k 10 0 (BitVec.ofNat 16 m) p c)) = .next (gapBegun c (pinPast c k p) m) := by
  rw [zeroEvent_expire_gapStart rfl]
  cases m with
  | zero => rfl
  | succ m =>
    have hne : BitVec.ofNat 16 (m + 1) ≠ 0 := by bv_omega
    have hdec : BitVec.ofNat 16 (m + 1) - 1 = BitVec.ofNat 16 m := by bv_omega
    simp only [moveTo, gapBegun, hne, hdec, if_false]
    rfl

/-- The state in which `gap_end` counts the repetition, with the pin at `p` (R151). -/
def repetitionSent (c : State) (p : Level) : State := moveTo .gapEnd c.cfgHigh 10 0 0 p c

theorem stretch_gap {c : State} (hen : c.timerEn = true) {m : Nat} (hm : m < 65536) {p : Level}
    (hp : c.cfgTrail.toNat < eff c.cfgHigh → p = offLevel c) :
    Stretch c ((m + 1) * eff c.cfgGap) (List.replicate ((m + 1) * eff c.cfgGap) false) (gapBegun c p m)
      (zeroGapEnd (repetitionSent c (pinPast c c.cfgGap p))) := by
  induction m generalizing p with
  | zero =>
    rw [Nat.zero_add, Nat.one_mul]
    exact stretch_off hen (by simp) (by simp) hp (zeroEvent_expire_gapEnd rfl)
  | succ m ih =>
    have hpast : pinPast c c.cfgGap (pinPast c c.cfgGap p) = pinPast c c.cfgGap p := by
      unfold pinPast
      split_ifs <;> rfl
    rw [Nat.succ_mul, Nat.add_comm, List.replicate_add, ← hpast]
    refine (stretch_off hen (by simp) (by simp) hp (zeroEvent_gapBegun c (by omega) _ _)).trans (ih (by omega) ?_)
    exact fun htrail => ite_eq_left_iff.2 fun _ => hp htrail

/-! ### A whole repetition (R158, R160) -/

/-- The state that the `msg_start` zero event leaves. -/
def repetitionBegun (c : State) : State := moveTo .byteStart c.cfgHigh 0 c.bitMask c.gapRep (onLevel c) c

/-- The state that the `gap_end` zero event of the repetition leaves. -/
def repetitionEnded (c : State) : State :=
  zeroGapEnd (repetitionSent c (pinPast c c.cfgGap (pinPast c c.cfgHigh (onLevel c))))

/-- The ticks from the `msg_start` zero event to the `gap_end` zero event. -/
def framedTicks (c : State) : Nat :=
  eff c.cfgHigh + (c.buf.toList.map fun b => byteTicks c b.val).sum + eff c.cfgHigh + gapTicks c

/-- The pin between them. -/
def framedWave (c : State) : List Bool :=
  onSymbol c ++ c.buf.toList.flatMap (fun b => byteSymbols c b.val) ++ onSymbol c ++ List.replicate (gapTicks c) false

theorem repetitionWave_eq (c : State) : repetitionWave c = framedWave c ++ List.replicate (eff c.cfgHigh) false := rfl

theorem repetitionTicks_eq (c : State) : repetitionTicks c = framedTicks c + eff c.cfgHigh := by
  rw [framedTicks, sum_byteTicks, Vector.length_toList, repetitionTicks, frameOnes]
  ring

theorem stretch_repetition {c : State} (hen : c.timerEn = true) :
    Stretch c (framedTicks c) (framedWave c) (repetitionBegun c) (repetitionEnded c) := by
  have hstart : Stretch c (eff c.cfgHigh) (onSymbol c) (repetitionBegun c) (byteBegun c c.gapRep 0) :=
    stretch_on hen (by simp) (by simp) (fun _ => rfl) (zeroEvent_expire_byteStart rfl)
  have hend : Stretch c (eff c.cfgHigh) (onSymbol c) (byteBegun c c.gapRep 10)
      (gapBegun c (pinPast c c.cfgHigh (onLevel c)) c.cfgGapmul.toNat) := by
    refine stretch_on hen (by simp) (by simp) (fun _ => rfl) ?_
    rw [← zeroEvent_gapBegun c c.cfgGapmul.isLt, BitVec.ofNat_toNat, BitVec.setWidth_eq]
  exact ((hstart.trans (stretch_bytes hen c.gapRep 10 0 rfl)).trans hend).trans
    (stretch_gap hen c.cfgGapmul.isLt fun htrail => if_pos htrail)

end Sys2Proof.Machine

/-! ## Proofs: from one repetition to the next (spec/42_tick_sequencer.md R158, R160) -/

namespace Sys2Proof.Machine

/-! ### The run of one repetition -/

/-- The `msg_start` zero event comes when the counter has run down. -/
theorem tickRun_repetitionBegun {s : State} (hen : s.timerEn = true) (hf : s.framing = .msgStart) :
    tickRun (eff s.toggle) s = .next (repetitionBegun s) := by
  rw [tickRun_eff hen (by simp [hf]), zeroEvent_expire_msgStart hf]
  rfl

/-- The `gap_end` zero event comes `framedTicks` after it. -/
theorem tickRun_repetitionEnded {s : State} (hen : s.timerEn = true) (hf : s.framing = .msgStart) :
    tickRun (eff s.toggle + framedTicks s) s = .next (repetitionEnded s) := by
  obtain ⟨w, hlen, ⟨hrun, -⟩, -⟩ := stretch_repetition hen
  rw [tickRun_add (tickRun_repetitionBegun hen hf), ← hlen, hrun]

/-- Between the two the timer runs, and no `msg_start` zero event comes. -/
theorem tickRun_withinRepetition {s : State} (hen : s.timerEn = true) {n : Nat} (hn : n < framedTicks s) :
    ∃ u, tickRun n (repetitionBegun s) = .next u ∧ u.timerEn = true ∧ u.framing ≠ .msgStart := by
  obtain ⟨w, hlen, ⟨-, hshow⟩, -⟩ := stretch_repetition hen
  obtain ⟨u, hu, -, hrest⟩ := hshow n (hlen ▸ hn)
  exact ⟨u, hu, hrest⟩

/-- When `T < eff(H)` the pin between the two is the frame's waveform (R160). -/
theorem tickRun_framedWave {s : State} (hen : s.timerEn = true) (htrail : s.cfgTrail.toNat < eff s.cfgHigh) :
    (framedWave s).length = framedTicks s ∧
    ∀ (n : Nat) (h : n < (framedWave s).length),
      ∃ u, tickRun n (repetitionBegun s) = .next u ∧ u.txOut = levelOf s (framedWave s)[n] := by
  obtain ⟨w, hlen, ⟨-, hshow⟩, hwave⟩ := stretch_repetition hen
  obtain rfl := hwave htrail
  rw [List.length_map] at hlen
  refine ⟨hlen, fun n hn => ?_⟩
  obtain ⟨u, hu, hpin, -⟩ := hshow n (by rwa [List.length_map])
  exact ⟨u, hu, by rw [hpin, List.getElem_map]⟩

/-! ### The start of a repetition -/

/-- The core `s` with `REP_CNT = r` at the start of a repetition, `eff(H)` ticks before its `msg_start` zero event. -/
def repetitionStart (s : State) (r : BitVec 8) (i : BitVec 4) (m : BitVec 8) (g : BitVec 16) (p : Level) : State :=
  moveTo .msgStart s.cfgHigh i m g p { s with repCnt := r }

section
variable {s : State} {r : BitVec 8} {i : BitVec 4} {m : BitVec 8} {g : BitVec 16} {p : Level} {j : Nat}

theorem tickRun_repetitionStart (hen : s.timerEn = true) (hj : j < eff s.cfgHigh) :
    tickRun j (repetitionStart s r i m g p) = .next (countedDown (repetitionStart s r i m g p) j) :=
  tickRun_countedDown (s := repetitionStart s r i m g p) hen (by simp [repetitionStart, moveTo]) hj

/-- The first zero event after it is `msg_start`'s, at the `eff(H)`-th tick. -/
theorem zeroEventDue_repetitionStart (hen : s.timerEn = true) (hj : j < eff s.cfgHigh) (f : Framing) :
    zeroEventDue f (countedDown (repetitionStart s r i m g p) j) ↔ .msgStart = f ∧ j + 1 = eff s.cfgHigh :=
  zeroEventDue_countedDown (s := repetitionStart s r i m g p) hen hj f

theorem tickRun_msgStartDue (hen : s.timerEn = true) :
    ∃ t, tickRun (eff s.cfgHigh - 1) (repetitionStart s r i m g p) = .next t ∧ zeroEventDue .msgStart t ∧
      t.repCnt = r := by
  have hlast : eff s.cfgHigh - 1 + 1 = eff s.cfgHigh := Nat.sub_add_cancel (eff_pos s.cfgHigh)
  have hlt : eff s.cfgHigh - 1 < eff s.cfgHigh := by omega
  exact ⟨_, tickRun_repetitionStart hen hlt, (zeroEventDue_repetitionStart hen hlt _).2 ⟨rfl, hlast⟩, rfl⟩

end

/-! ### The end of a repetition (R151) -/

/-- The pin after a repetition: a trailing event falls in the `msg_end` period or in a gap period (R162). -/
def endPin (c : State) : Level :=
  if c.cfgTrail.toNat < eff c.cfgHigh ∨ c.cfgTrail.toNat < eff c.cfgGap then offLevel c else onLevel c

theorem repetitionEnded_eq (c : State) : repetitionEnded c = zeroGapEnd (repetitionSent c (endPin c)) := by
  have hpin : pinPast c c.cfgGap (pinPast c c.cfgHigh (onLevel c)) = endPin c := by
    simp only [pinPast, endPin, or_comm (a := c.cfgTrail.toNat < eff c.cfgHigh), ite_or]
  rw [repetitionEnded, hpin]

theorem repetitionEnded_last {c : State} (h : lastRepetition c) :
    repetitionEnded c =
      { moveTo .idle c.cfgHigh 10 0 0 (endPin c) c with repCnt := c.repCnt + 1, timerEn := false, active := false } := by
  rw [repetitionEnded_eq, zeroGapEnd_last (s := repetitionSent c _) h]
  rfl

theorem repetitionEnded_again {c : State} (h : ¬ lastRepetition c) :
    repetitionEnded c = repetitionStart c (c.repCnt + 1) 10 0 0 (endPin c) := by
  rw [repetitionEnded_eq, zeroGapEnd_again (s := repetitionSent c _) h]
  rfl

theorem not_lastRepetition {s : State} (h : s.repCnt.toNat + 1 < s.cfgRepeat.toNat) : ¬ lastRepetition s := by
  unfold lastRepetition
  bv_omega

/-! ### Silence -/

theorem pinAfter_off {s : State} (h : s.txOut = offLevel s) (n : Nat) : pinAfter s n = offLevel s :=
  ite_eq_left_iff.2 fun _ => h

/-- When `T < eff(H)` the pin is OFF for `eff(H)` ticks after a repetition, the last one included (R157, R162). -/
theorem tickRun_afterRepetition_off {s : State} (hen : s.timerEn = true) (htrail : s.cfgTrail.toNat < eff s.cfgHigh)
    {n : Nat} (hn : n < eff s.cfgHigh) : ∃ t, tickRun n (repetitionEnded s) = .next t ∧ t.txOut = offLevel s := by
  have hpin : endPin s = offLevel s := if_pos (.inl htrail)
  by_cases hlast : lastRepetition s
  · rw [repetitionEnded_last hlast]
    exact ⟨_, tickRun_stopped rfl n, hpin⟩
  · rw [repetitionEnded_again hlast]
    exact ⟨_, tickRun_repetitionStart hen hn, pinAfter_off (s := repetitionStart ..) hpin n⟩

/-! ### P, the ticks of one repetition (R158) -/

/-- The next `msg_start` zero event comes `P` ticks after one that is not in the last repetition. -/
theorem tickRun_nextRepetition {s : State} (hdue : zeroEventDue .msgStart s) (h : s.repCnt.toNat + 1 < s.cfgRepeat.toNat) :
    ∃ t, tickRun (repetitionTicks s) s = .next t ∧ zeroEventDue .msgStart t ∧ t.repCnt = s.repCnt + 1 := by
  have ⟨hen, hf, _⟩ := hdue
  have hend := tickRun_repetitionEnded hen hf
  rw [eff_toggle_of_due hdue, repetitionEnded_again (not_lastRepetition h)] at hend
  obtain ⟨t, ht, hnext, hcount⟩ :=
    tickRun_msgStartDue (r := s.repCnt + 1) (i := 10) (m := 0) (g := 0) (p := endPin s) hen
  have hpos := eff_pos s.cfgHigh
  refine ⟨t, ?_, hnext, hcount⟩
  rw [show repetitionTicks s = 1 + framedTicks s + (eff s.cfgHigh - 1) by rw [repetitionTicks_eq]; omega,
    tickRun_add hend, ht]

/-- No `msg_start` zero event comes before. -/
theorem not_msgStart_within {s t : State} (hdue : zeroEventDue .msgStart s) (h : s.repCnt.toNat + 1 < s.cfgRepeat.toNat)
    {n : Nat} (hpos : 0 < n) (hn : n < repetitionTicks s) (hrun : tickRun n s = .next t) : ¬ zeroEventDue .msgStart t := by
  have ⟨hen, hf, _⟩ := hdue
  obtain ⟨n, rfl⟩ := Nat.exists_eq_add_of_le hpos
  rw [repetitionTicks_eq] at hn
  have hbegun := tickRun_repetitionBegun hen hf
  have hend := tickRun_repetitionEnded hen hf
  rw [eff_toggle_of_due hdue] at hbegun hend
  intro hmsg
  by_cases hwithin : n < framedTicks s
  · obtain ⟨u, hu, -, hne⟩ := tickRun_withinRepetition hen hwithin
    rw [tickRun_add (m := 1) hbegun, hu] at hrun
    obtain rfl := eq_of_next hrun
    exact hne (framing_of_due hmsg)
  · obtain ⟨j, rfl⟩ := Nat.exists_eq_add_of_le (not_lt.mp hwithin)
    rw [← Nat.add_assoc, tickRun_add hend, repetitionEnded_again (not_lastRepetition h)] at hrun
    have hj : j < eff s.cfgHigh := by omega
    rw [tickRun_repetitionStart hen hj] at hrun
    obtain rfl := eq_of_next hrun
    obtain ⟨-, hlast⟩ := (zeroEventDue_repetitionStart hen hj _).1 hmsg
    omega

/-- Every symbol of the default table has six 1 bits (R95). -/
theorem frameOnes_of_defaultTable {s : State} (h : ∀ k : Fin 10, s.buf[k].val ∈ defaultSymbolTable.toList) :
    frameOnes s = 60 := by
  have hsymbol : ∀ b ∈ defaultSymbolTable.toList, ones b = 6 := by decide
  have hones : ∀ n ∈ s.buf.toList.map (fun b => ones b.val), n = 6 := by
    intro n hn
    obtain ⟨b, hb, rfl⟩ := List.mem_map.1 hn
    obtain ⟨k, hk, rfl⟩ := Vector.getElem_of_mem (Vector.mem_toList_iff.1 hb)
    exact hsymbol _ (h ⟨k, hk⟩)
  rw [frameOnes, List.sum_eq_card_nsmul _ 6 hones]
  simp

/-- Settles O54: the next `msg_start` zero event, none before it, and the 60 1 bits of a frame of default symbols. -/
theorem ticksPerRepetition : Obligations.TicksPerRepetition := by
  refine ⟨fun s hdue h => ⟨tickRun_nextRepetition hdue h, fun n t hpos hn hrun => ?_⟩, fun s h => ?_⟩
  · exact not_msgStart_within hdue h hpos hn hrun
  · rw [repetitionTicks, frameOnes_of_defaultTable h, gapTicks]

/-- Settles O56: the frame's waveform up to the `gap_end` zero event, and silence after it. -/
theorem waveformOfARepetition : Obligations.WaveformOfARepetition := by
  intro s hdue htrail
  have ⟨hen, hf, _⟩ := hdue
  obtain ⟨hlen, hwave⟩ := tickRun_framedWave hen htrail
  have hbegun := tickRun_repetitionBegun hen hf
  have hend := tickRun_repetitionEnded hen hf
  rw [eff_toggle_of_due hdue] at hbegun hend
  have hlength : (repetitionWave s).length = repetitionTicks s := by
    rw [repetitionWave_eq, List.length_append, hlen, List.length_replicate, repetitionTicks_eq]
  refine ⟨hlength, fun n hn => ?_⟩
  simp only [repetitionWave_eq]
  by_cases hframed : n < (framedWave s).length
  · rw [Nat.add_comm, tickRun_add hbegun, List.getElem_append_left hframed]
    exact hwave n hframed
  · obtain ⟨j, rfl⟩ := Nat.exists_eq_add_of_le (not_lt.mp hframed)
    rw [hlength, repetitionTicks_eq] at hn
    rw [List.getElem_append_right (by omega), List.getElem_replicate, hlen,
      show framedTicks s + j + 1 = 1 + framedTicks s + j by omega, tickRun_add hend]
    exact tickRun_afterRepetition_off hen htrail (by omega)

end Sys2Proof.Machine

/-! ## Proofs: a transmission from the arm to READY (spec/42_tick_sequencer.md R159, R161, R162) -/

namespace Sys2Proof.Machine

/-! ### The start (R161) -/

theorem timerEn_of_justArmed {s : State} (h : Inv s) (ha : justArmed s) : s.timerEn = true := by
  obtain ⟨-, ⟨htimer, -⟩, -⟩ := h
  obtain ⟨hactive, -⟩ := ha
  exact htimer ▸ hactive

/-- Tick `eff(H)` after an arm is the `idle` zero event, which starts the first repetition (R145). -/
theorem tickRun_firstStart {s : State} (hen : s.timerEn = true) (ha : justArmed s) :
    tickRun (eff s.cfgHigh) s = .next (repetitionStart s 0 s.byteIdx s.bitMask s.gapRep (pinAtZero s)) := by
  obtain ⟨hactive, hidle, htoggle, -⟩ := ha
  rw [← htoggle, tickRun_eff hen (by simp [hidle]), zeroEvent_expire_idle hidle, repetitionStart, moveTo]
  simp only [hactive, if_true]

/-- The ticks before the first `msg_start` zero event count down in `idle`, and then in `msg_start`. -/
theorem tickRun_beforeStart {s : State} (hen : s.timerEn = true) (ha : justArmed s) {n : Nat} (hn : n < 2 * eff s.cfgHigh) :
    (n < eff s.cfgHigh ∧ tickRun n s = .next (countedDown s n)) ∨
    (∃ j, n = eff s.cfgHigh + j ∧ j < eff s.cfgHigh ∧ tickRun n s =
      .next (countedDown (repetitionStart s 0 s.byteIdx s.bitMask s.gapRep (pinAtZero s)) j)) := by
  have ⟨_, hidle, htoggle, _⟩ := ha
  by_cases hfirst : n < eff s.cfgHigh
  · exact .inl ⟨hfirst, tickRun_countedDown hen (by simp [hidle]) (by rwa [htoggle])⟩
  · obtain ⟨j, rfl⟩ := Nat.exists_eq_add_of_le (not_lt.mp hfirst)
    have hj : j < eff s.cfgHigh := by omega
    rw [tickRun_add (tickRun_firstStart hen ha)]
    exact .inr ⟨j, rfl, hj, tickRun_repetitionStart hen hj⟩

/-- A zero event before tick `2 * eff(H)` is that of `idle`. -/
theorem idle_of_due_beforeStart {s t : State} (hen : s.timerEn = true) (ha : justArmed s) {n : Nat}
    (hn : n + 1 < 2 * eff s.cfgHigh) (hrun : tickRun n s = .next t) {f : Framing} (hdue : zeroEventDue f t) : f = .idle := by
  have ⟨_, hidle, htoggle, _⟩ := ha
  obtain ⟨hfirst, hrun'⟩ | ⟨j, rfl, hj, hrun'⟩ := tickRun_beforeStart hen ha (n := n) (by omega)
  · obtain rfl := eq_of_next (hrun'.symm.trans hrun)
    obtain ⟨hf, -⟩ := (zeroEventDue_countedDown hen (by rwa [htoggle]) f).1 hdue
    exact hf.symm.trans hidle
  · obtain rfl := eq_of_next (hrun'.symm.trans hrun)
    obtain ⟨-, hlast⟩ := (zeroEventDue_repetitionStart hen hj f).1 hdue
    omega

/-- A pin that is OFF at the arm is OFF until the first drive (R161). -/
theorem off_beforeStart {s : State} (hen : s.timerEn = true) (ha : justArmed s) (hoff : s.txOut = offLevel s) {n : Nat}
    (hn : n < 2 * eff s.cfgHigh) : ∃ t, tickRun n s = .next t ∧ t.txOut = offLevel s := by
  have hzero : pinAtZero s = offLevel s := ite_eq_left_iff.2 fun _ => hoff
  obtain ⟨-, hrun⟩ | ⟨j, -, -, hrun⟩ := tickRun_beforeStart hen ha hn
  · exact ⟨_, hrun, pinAfter_off hoff n⟩
  · exact ⟨_, hrun, pinAfter_off (s := repetitionStart ..) hzero j⟩

/-- Settles O57: `eff(H)` ticks of `idle`, then `eff(H)` ticks of `msg_start`. -/
theorem startLatency : Obligations.StartLatency := by
  intro s hinv ha
  have hen := timerEn_of_justArmed hinv ha
  have ⟨_, hidle, htoggle, _⟩ := ha
  have hpos := eff_pos s.cfgHigh
  have hstart := tickRun_firstStart hen ha
  refine ⟨fun n t hn hrun => ?_, ?_, ?_, ?_, fun hoff n hn => off_beforeStart hen ha hoff hn⟩
  · have honly (f : Framing) (hf : f ≠ .idle) : ¬ zeroEventDue f t :=
      fun hdue => hf (idle_of_due_beforeStart hen ha hn hrun hdue)
    exact ⟨honly _ (by simp), honly _ (by simp), honly _ (by simp), honly _ (by simp)⟩
  · rw [← htoggle] at hpos ⊢
    exact ⟨_, tickRun_countedDown hen (by simp [hidle]) (by omega),
      (zeroEventDue_countedDown hen (by omega) _).2 ⟨hidle, by omega⟩⟩
  · obtain ⟨t, ht, hdue, -⟩ := tickRun_msgStartDue (r := 0) (i := s.byteIdx) (m := s.bitMask) (g := s.gapRep)
      (p := pinAtZero s) hen
    rw [show 2 * eff s.cfgHigh - 1 = eff s.cfgHigh + (eff s.cfgHigh - 1) by omega, tickRun_add hstart]
    exact ⟨t, ht, hdue⟩
  · rw [Nat.two_mul, tickRun_add hstart]
    exact ⟨_, tickRun_repetitionBegun (s := repetitionStart ..) hen rfl, rfl⟩

/-! ### The repetitions (R159) -/

/-- The start of each repetition: `eff(H)` ticks after the arm, and then every `P` ticks. -/
theorem tickRun_start {s : State} (hen : s.timerEn = true) (ha : justArmed s) {r : Nat} (hr : r < s.cfgRepeat.toNat) :
    ∃ i m g p, tickRun (eff s.cfgHigh + r * repetitionTicks s) s =
      .next (repetitionStart s (BitVec.ofNat 8 r) i m g p) := by
  induction r with
  | zero =>
    rw [Nat.zero_mul, Nat.add_zero]
    exact ⟨_, _, _, _, tickRun_firstStart hen ha⟩
  | succ r ih =>
    obtain ⟨i, m, g, p, hrun⟩ := ih (by omega)
    have hagain : ¬ lastRepetition (repetitionStart s (BitVec.ofNat 8 r) i m g p) := by
      apply not_lastRepetition
      change (BitVec.ofNat 8 r).toNat + 1 < s.cfgRepeat.toNat
      bv_omega
    have hend : tickRun (eff s.cfgHigh + framedTicks s) (repetitionStart s (BitVec.ofNat 8 r) i m g p) = _ :=
      tickRun_repetitionEnded (s := repetitionStart ..) hen rfl
    rw [repetitionEnded_again hagain] at hend
    refine ⟨10, 0, 0, endPin s, ?_⟩
    rw [Nat.succ_mul, ← Nat.add_assoc, tickRun_add hrun, repetitionTicks_eq, Nat.add_comm (framedTicks s), hend,
      BitVec.ofNat_add]
    rfl

/-- The state that the transmission leaves (R162). -/
def transmissionEnded (s : State) : State :=
  { moveTo .idle s.cfgHigh 10 0 0 (endPin s) s with repCnt := s.cfgRepeat, timerEn := false, active := false }

/-- The `gap_end` zero event of the last repetition ends the transmission (R151, R159). -/
theorem tickRun_transmissionEnded {s : State} (hen : s.timerEn = true) (ha : justArmed s) (hrep : 1 ≤ s.cfgRepeat.toNat) :
    tickRun (ticksToReady s) s = .next (transmissionEnded s) := by
  obtain ⟨r, hr⟩ := Nat.exists_eq_add_of_le' hrep
  obtain ⟨i, m, g, p, hrun⟩ := tickRun_start hen ha (r := r) (by omega)
  have hcount : BitVec.ofNat 8 r + 1 = s.cfgRepeat := by bv_omega
  have hlast : lastRepetition (repetitionStart s (BitVec.ofNat 8 r) i m g p) := by
    change s.cfgRepeat.toNat ≤ (BitVec.ofNat 8 r + 1).toNat
    rw [hcount]
  have hend : tickRun (eff s.cfgHigh + framedTicks s) (repetitionStart s (BitVec.ofNat 8 r) i m g p) = _ :=
    tickRun_repetitionEnded (s := repetitionStart ..) hen rfl
  rw [repetitionEnded_last hlast] at hend
  rw [ticksToReady, hr, Nat.succ_mul, ← Nat.add_assoc, tickRun_add hrun, repetitionTicks_eq,
    Nat.add_comm (framedTicks s), hend, transmissionEnded, ← hcount]
  rfl

/-- One tick before, the timer still runs. -/
theorem tickRun_beforeEnd {s : State} (hen : s.timerEn = true) (ha : justArmed s) (hrep : 1 ≤ s.cfgRepeat.toNat) :
    ∃ u, tickRun (ticksToReady s - 1) s = .next u ∧ u.timerEn = true := by
  obtain ⟨r, hr⟩ := Nat.exists_eq_add_of_le' hrep
  obtain ⟨i, m, g, p, hrun⟩ := tickRun_start hen ha (r := r) (by omega)
  have hbegun := tickRun_repetitionBegun (s := repetitionStart s (BitVec.ofNat 8 r) i m g p) hen rfl
  have hpos : 0 < framedTicks s := by
    have := eff_pos s.cfgHigh
    unfold framedTicks
    omega
  obtain ⟨u, hu, huen, -⟩ :=
    tickRun_withinRepetition (s := repetitionStart s (BitVec.ofNat 8 r) i m g p) hen (n := framedTicks s - 1)
      (Nat.sub_lt hpos Nat.one_pos)
  refine ⟨u, ?_, huen⟩
  have hticks : eff s.cfgHigh + (r + 1) * repetitionTicks s - 1 =
      eff s.cfgHigh + r * repetitionTicks s + (eff s.cfgHigh + (framedTicks s - 1)) := by
    rw [Nat.succ_mul, repetitionTicks_eq s]
    omega
  rw [ticksToReady, hr, hticks, tickRun_add hrun]
  exact (tickRun_add hbegun _).trans hu

/-- A timer that runs has run before. -/
theorem timerEn_of_tickRun {n : Nat} {s t : State} (h : tickRun n s = .next t) (ht : t.timerEn = true) :
    s.timerEn = true := by
  cases hs : s.timerEn with
  | true => rfl
  | false =>
    rw [tickRun_stopped hs] at h
    rw [← hs, ← ht, eq_of_next h]

/-- Up to a tick after which the timer runs, the core transmits (R44). -/
theorem active_of_timerEn {m n : Nat} {s u : State} (hinv : Inv s) (hle : n ≤ m) (h : tickRun m s = .next u)
    (hen : u.timerEn = true) : ∃ t, tickRun n s = .next t ∧ t.active = true := by
  obtain ⟨d, rfl⟩ := Nat.exists_eq_add_of_le hle
  obtain ⟨t, ht, hrest⟩ := tickRun_split h
  obtain ⟨-, ⟨htimer, -⟩, -⟩ := tickRun_inv hinv ht
  exact ⟨t, ht, htimer.trans (timerEn_of_tickRun hrest hen)⟩

/-- Settles O55: the core transmits up to the last tick but one, is stopped from the last, and starts each repetition in
between. -/
theorem readyAfterTicksToReady : Obligations.TicksToReady := by
  intro s hinv ha
  have hen := timerEn_of_justArmed hinv ha
  have ⟨_, ⟨_, _, _, ⟨hrep, hmax⟩, _⟩, _⟩ := hinv
  have hpos := eff_pos s.cfgHigh
  refine ⟨fun n hn => ?_, fun n hn => ?_, fun k hk hk' => ?_⟩
  · obtain ⟨u, hu, huen⟩ := tickRun_beforeEnd hen ha hrep
    exact active_of_timerEn hinv (Nat.le_sub_one_of_lt hn) hu huen
  · obtain ⟨j, rfl⟩ := Nat.exists_eq_add_of_le hn
    refine ⟨transmissionEnded s, ?_, rfl, exec_isReady _⟩
    exact (tickRun_add (tickRun_transmissionEnded hen ha hrep) j).trans (tickRun_stopped rfl j)
  · obtain ⟨i, m, g, p, hrun⟩ := tickRun_start hen ha (r := k - 1) (by omega)
    obtain ⟨t, ht, hdue, hcount⟩ :=
      tickRun_msgStartDue (r := BitVec.ofNat 8 (k - 1)) (i := i) (m := m) (g := g) (p := p) hen
    refine ⟨t, ?_, hdue, ?_⟩
    · rw [show 2 * eff s.cfgHigh + (k - 1) * repetitionTicks s - 1 =
        eff s.cfgHigh + (k - 1) * repetitionTicks s + (eff s.cfgHigh - 1) by omega, tickRun_add hrun, ht]
    · rw [hcount, BitVec.toNat_ofNat]
      omega

/-- Settles O58: the state after the last repetition. -/
theorem stateAfterTransmission : Obligations.StateAfterTransmission := by
  intro s hinv ha
  have ⟨_, ⟨_, _, _, ⟨hrep, _⟩, _⟩, _⟩ := hinv
  exact tickRun_transmissionEnded (timerEn_of_justArmed hinv ha) ha hrep

end Sys2Proof.Machine

/-! ## Proofs: reset (spec/70_reset_and_hazards.md R210) -/

namespace Sys2Proof.Machine

/-- Settles O9: a reset event is a power cycle of the state with the event taken. -/
theorem stepResetsTheBlock : Obligations.StepResetsTheBlock := by
  intro s rest hin
  calc step s = .next (powerCycle (takeEvent s)) := step_of_cons hin
    _ = .next (powerCycle { s with inputs := rest }) := by rw [takeEvent_of_cons hin]
    _ = .next { State.resetWith s.params with
          nvm := s.nvm, nvmLog := s.nvmLog, draws := s.draws, inputs := rest } := rfl

end Sys2Proof.Machine
